-- ==== Sys2Proof/Word.lean ====
section
/-!
DEFINITION. The word types of the Gevajo TS24: what the manual treats as bits (09 R199), and nothing else.
Counts, indices, slot numbers and levels are natural numbers or `Fin`; they are no words.
-/

namespace Sys2Proof

/-- One byte of a record (R199). -/
abbrev Byte := BitVec 8

/-- A 32-bit word: a register (R173), a result word (R203), or a sample value, threshold or substitute value, which is signed
two's complement (00_scope.md section 6). -/
abbrev Word := BitVec 32

/-- A 64-bit host address (00_scope.md section 6). -/
abbrev Addr := BitVec 64

/-- A value of the 48-bit time base, in microseconds (R193). -/
abbrev Time := BitVec 48

/-- A 16-bit sequence number of a sample record (R204). -/
abbrev Seq := BitVec 16

/-- A level, 0 to 7 (00_scope.md section 6). -/
abbrev Level := Fin 8

/-- A requester of the memory access unit, 0 to 14 (R17). -/
abbrev Requester := Fin 15

end Sys2Proof
end

