-- ==== Sys2Proof/Syntax.lean ====
section
/-!
DEFINITION. The commands of the part: one constructor of `Instr` for each row of spec/opcode_table.json, with the row's operands.
The part is a block, so a "command" is a write or read of a register, an event on a pin or of the clock, a grant or completion of the
host link, or a command record of the host.
-/

namespace Sys2Proof

/-- How an access ended on the host link: success with the data it brought, or an access error (R19). The address an error carries is
that of the access itself, so it is no operand. -/
inductive Completion (α : Type) where
  | ok (data : α)
  | accessError
deriving DecidableEq, Repr

/-- The fields of a command record that every command carries (R201): flags, tag and index. -/
structure CmdHeader where
  flags : Byte
  tag   : BitVec 16
  index : BitVec 16
deriving DecidableEq, Repr

/-- A command record as the command engine holds it (R32): code, flags, tag, index and the 24 parameter bytes. Bytes +6 and +7 of
the record are ignored (R201) and not held. -/
structure CommandRecord where
  code   : Byte
  flags  : Byte
  tag    : BitVec 16
  index  : BitVec 16
  params : Vector Byte 24
deriving DecidableEq, Repr

/-- The parameters of BIND_STREAM (R202), each a field of its full width. -/
structure BindParams where
  sampleRing      : Byte
  eventRing       : Byte
  level           : Byte
  fallbackPresent : Byte
  timeout         : BitVec 16
  fallback        : Word
deriving DecidableEq, Repr

/-- The parameters of CREATE_WATCH and MODIFY_WATCH (R202), each a field of its full width. -/
structure WatchParams where
  stream     : Byte
  kind       : Byte
  level      : Byte
  target     : Byte
  alarmLine  : Byte
  attributes : Byte
  na         : Byte
  nc         : Byte
  upper      : Word
  lower      : Word
  hysteresis : Word
deriving DecidableEq, Repr

/-- What a command record asks for, without its header (R201, R202): the code names the constructor, the parameter bytes its
operands. -/
inductive Request where
  | nop
  /-- a code that names no command (R37) -/
  | unknown (code : Byte)
  | openSampleRing (base : Addr) (slots : BitVec 16)
  | closeSampleRing
  | openEventRing (base : Addr) (slots : BitVec 16) (notify floor : Byte)
  | closeEventRing
  | queryRing
  | bindStream (p : BindParams)
  | unbindStream
  | reviveStream
  | queryStream
  | createWatch (p : WatchParams)
  | modifyWatch (p : WatchParams)
  | deleteWatch
  | armWatch
  | disarmWatch
  | ackWatch
  | queryWatch
  | release
  | setFloor (level : Byte)
  | configureAlarm (mode : Byte)
  | releaseAlarm
deriving DecidableEq, Repr

/-- One constructor per row of spec/opcode_table.json; LAWS.json maps each to its row. -/
inductive Instr where
  /-- START: the START code written to CONTROL (R175). -/
  | start
  /-- STOP: the STOP code written to CONTROL (R175). -/
  | stop
  /-- RESET: the RESET code written to CONTROL (R175, R197). -/
  | reset
  /-- SETUP_LO: a write of SETUP_LO (R179). -/
  | setupLo (value : Word)
  /-- SETUP_HI: a write of SETUP_HI (R179). -/
  | setupHi (value : Word)
  /-- PRODUCER_POST: a write of POST whose selector names the command ring or a sample ring, or no ring (R7). -/
  | producerPost (word : Word)
  /-- CONSUMER_POST: a write of POST whose selector names the reply ring or an event ring (R8). -/
  | consumerPost (word : Word)
  /-- TIME_LO_READ: a read of TIME_LO that asks for the bytes whose bits of `lanes` are set (R173, R194). -/
  | timeLoRead (lanes : BitVec 4)
  /-- REGISTER_WRITE_IGNORED: a write of the bytes in `lanes` at an offset of the window, that has no effect (R173). -/
  | registerWriteIgnored (offset : Nat) (lanes : BitVec 4) (value : Word)
  /-- HARDWARE_RESET: RST_N is asserted (R196). -/
  | hardwareReset
  /-- RST_N_RELEASE: RST_N is released (R196). -/
  | rstNRelease
  /-- MEMORY_ACCESS_GRANT: the host link takes its next access (R18). -/
  | memoryAccessGrant
  /-- SETUP_READ_COMPLETION (R181 to R183). -/
  | setupReadCompletion (result : Completion (Vector Byte 28))
  /-- COMMAND_FETCH_COMPLETION (R36, R46). -/
  | commandFetchCompletion (result : Completion (Vector Byte 32))
  /-- REPLY_WRITE_COMPLETION (R43, R47). -/
  | replyWriteCompletion (result : Completion Unit)
  /-- SHADOW_WRITE_COMPLETION (R15, R16). -/
  | shadowWriteCompletion (result : Completion Unit)
  /-- SAMPLE_FETCH_COMPLETION of sample ring `ring`, with the records it brought (R55, R22, R23). -/
  | sampleFetchCompletion (ring : Fin 8) (result : Completion (List (Vector Byte 8)))
  /-- EVENT_WRITE_COMPLETION of an entry record on event ring `ring` (R147, R149). -/
  | eventWriteCompletion (ring : Fin 4) (result : Completion Unit)
  /-- OVERRUN_WRITE_COMPLETION of an OVERRUN record on event ring `ring` (R148, R150). -/
  | overrunWriteCompletion (ring : Fin 4) (result : Completion Unit)
  /-- COMPLETION_DISCARDED: the completion of the access of `requester` that carries `epoch` returns, and is discarded (R20, R21). -/
  | completionDiscarded (requester : Requester) (epoch : Nat)
  /-- SILENCE_EXPIRY of a stream (R65). -/
  | silenceExpiry (stream : Fin 64)
  /-- NOP (R41). -/
  | nop (h : CmdHeader)
  /-- UNKNOWN_COMMAND: a command record whose code names no command (R37). -/
  | unknownCommand (code : Byte) (h : CmdHeader)
  /-- OPEN_SAMPLE_RING (R25). -/
  | openSampleRing (h : CmdHeader) (base : Addr) (slots : BitVec 16)
  /-- CLOSE_SAMPLE_RING (R26). -/
  | closeSampleRing (h : CmdHeader)
  /-- OPEN_EVENT_RING (R28). -/
  | openEventRing (h : CmdHeader) (base : Addr) (slots : BitVec 16) (notify floor : Byte)
  /-- CLOSE_EVENT_RING (R29). -/
  | closeEventRing (h : CmdHeader)
  /-- QUERY_RING (R30). -/
  | queryRing (h : CmdHeader)
  /-- BIND_STREAM (R70). -/
  | bindStream (h : CmdHeader) (p : BindParams)
  /-- UNBIND_STREAM (R71). -/
  | unbindStream (h : CmdHeader)
  /-- REVIVE_STREAM (R72). -/
  | reviveStream (h : CmdHeader)
  /-- QUERY_STREAM (R74). -/
  | queryStream (h : CmdHeader)
  /-- CREATE_WATCH (R87). -/
  | createWatch (h : CmdHeader) (p : WatchParams)
  /-- MODIFY_WATCH (R93). -/
  | modifyWatch (h : CmdHeader) (p : WatchParams)
  /-- DELETE_WATCH (R96). -/
  | deleteWatch (h : CmdHeader)
  /-- ARM_WATCH (R89). -/
  | armWatch (h : CmdHeader)
  /-- DISARM_WATCH (R91). -/
  | disarmWatch (h : CmdHeader)
  /-- ACK_WATCH (R119). -/
  | ackWatch (h : CmdHeader)
  /-- QUERY_WATCH (R97). -/
  | queryWatch (h : CmdHeader)
  /-- RELEASE (R152). -/
  | release (h : CmdHeader)
  /-- SET_FLOOR (R154). -/
  | setFloor (h : CmdHeader) (level : Byte)
  /-- CONFIGURE_ALARM (R166). -/
  | configureAlarm (h : CmdHeader) (mode : Byte)
  /-- RELEASE_ALARM (R167). -/
  | releaseAlarm (h : CmdHeader)
  /-- TIME_BASE_TICK: one microsecond of the clock has passed (R193). -/
  | timeBaseTick
deriving DecidableEq, Repr

end Sys2Proof
end

