-- ==== Sys2Proof/WellFormed.lean ====
section
/-!
DEFINITION. Which commands are well formed: an operand outside these checks spells another row of the table, or an event the part
cannot see. `exec` is total all the same (log 14).
-/

namespace Sys2Proof

/-- The command codes of R201, NOP included. -/
def commandCodes : List Byte :=
  [0x00, 0x10, 0x11, 0x12, 0x13, 0x14, 0x20, 0x21, 0x22, 0x23, 0x30, 0x31, 0x32, 0x33, 0x34, 0x35, 0x36, 0x40, 0x41, 0x50, 0x51]

/-- The selector of a POST word, bits 15 to 12 (R207). -/
def postSelector (word : Word) : Nat := (word.extractLsb' 12 4).toNat

/-- The index of a POST word, bits 11 to 0 (R207). -/
def postIndex (word : Word) : Nat := (word.extractLsb' 0 12).toNat

/-- Whether a selector names a ring that the TS24 writes: the reply ring or an event ring (R8). -/
def selectsWrittenRing (selector : Nat) : Bool := selector == 1 || (10 ≤ selector && selector ≤ 13)

/-- The offsets of the window's registers that a full write can change something through: CONTROL, SETUP_LO, SETUP_HI, POST (R173). -/
def writableOffsets : List Nat := [0x04, 0x0C, 0x10, 0x14]

/-- Whether a write of the window is ignored (R173, R175): fewer than four bytes, an offset that is no writable register, or a
CONTROL value that is no code. -/
def writeIsIgnored (offset : Nat) (lanes : BitVec 4) (value : Word) : Bool :=
  lanes != 0xF || !writableOffsets.contains offset || (offset == 0x04 && value != 1 && value != 2 && value != 3)

/-- The operands belong to the row. -/
def WellFormed : Instr → Bool
  | .producerPost word => !selectsWrittenRing (postSelector word)
  | .consumerPost word => selectsWrittenRing (postSelector word)
  | .timeLoRead lanes => lanes != 0
  | .registerWriteIgnored offset lanes value => writeIsIgnored offset lanes value
  | .sampleFetchCompletion _ (.ok records) => 1 ≤ records.length && records.length ≤ 8
  | .sampleFetchCompletion _ .accessError => true
  | .unknownCommand code _ => !commandCodes.contains code
  | .start | .stop | .reset | .setupLo _ | .setupHi _ | .hardwareReset | .rstNRelease | .memoryAccessGrant
  | .setupReadCompletion _ | .commandFetchCompletion _ | .replyWriteCompletion _ | .shadowWriteCompletion _
  | .eventWriteCompletion _ _ | .overrunWriteCompletion _ _ | .completionDiscarded _ _ | .silenceExpiry _
  | .nop _ | .openSampleRing _ _ _ | .closeSampleRing _ | .openEventRing _ _ _ _ _ | .closeEventRing _ | .queryRing _
  | .bindStream _ _ | .unbindStream _ | .reviveStream _ | .queryStream _ | .createWatch _ _ | .modifyWatch _ _
  | .deleteWatch _ | .armWatch _ | .disarmWatch _ | .ackWatch _ | .queryWatch _ | .release _ | .setFloor _ _
  | .configureAlarm _ _ | .releaseAlarm _ | .timeBaseTick => true

end Sys2Proof
end

