-- ==== Sys2Proof/Decode.lean ====
section
/-!
DEFINITION. Words and bytes to commands, and back: the little-endian fields of records (R199), the command record (R201, R202) read
into a `Request`, and a `Request` written out as a command record. The rows of spec/opcode_table.json give no bits, so
`decodeTableWord` answers none (log 21).
-/

namespace Sys2Proof

/-- Byte `i` of a record. -/
def byteAt (bytes : List Byte) (i : Nat) : Byte := bytes.getD i 0

/-- The 16-bit little-endian field at offset `i` (R199). -/
def le16 (bytes : List Byte) (i : Nat) : BitVec 16 := byteAt bytes (i + 1) ++ byteAt bytes i

/-- The 32-bit little-endian field at offset `i` (R199). -/
def le32 (bytes : List Byte) (i : Nat) : Word := le16 bytes (i + 2) ++ le16 bytes i

/-- The 64-bit little-endian field at offset `i` (R199). -/
def le64 (bytes : List Byte) (i : Nat) : Addr := le32 bytes (i + 4) ++ le32 bytes i

/-- A 16-bit field as its two bytes, least significant first (R199). -/
def bytes16 (x : BitVec 16) : List Byte := [x.extractLsb' 0 8, x.extractLsb' 8 8]

/-- A 32-bit field as its four bytes, least significant first (R199). -/
def bytes32 (x : Word) : List Byte := bytes16 (x.extractLsb' 0 16) ++ bytes16 (x.extractLsb' 16 16)

/-- A 64-bit field as its eight bytes, least significant first (R199). -/
def bytes64 (x : Addr) : List Byte := bytes32 (x.extractLsb' 0 32) ++ bytes32 (x.extractLsb' 32 32)

/-- The 24 parameter bytes of a record, from offset +8, that begin with `bytes`; the rest are 0. -/
def parameterBytes (bytes : List Byte) : Vector Byte 24 := Vector.ofFn fun i => bytes.getD i 0

/-- The 32 bytes of a command ring slot as a command record (R201). -/
def commandRecordOfBytes (bytes : Vector Byte 32) : CommandRecord where
  code := byteAt bytes.toList 0
  flags := byteAt bytes.toList 1
  tag := le16 bytes.toList 2
  index := le16 bytes.toList 4
  params := Vector.ofFn fun i => byteAt bytes.toList (i + 8)

/-- The parameters of BIND_STREAM; offset +8 of the record is byte 0 of the parameters (R202). -/
def bindParams (p : List Byte) : BindParams where
  sampleRing := byteAt p 0
  eventRing := byteAt p 1
  level := byteAt p 2
  fallbackPresent := byteAt p 3
  timeout := le16 p 4
  fallback := le32 p 8

/-- The parameters of CREATE_WATCH and MODIFY_WATCH (R202). -/
def watchParams (p : List Byte) : WatchParams where
  stream := byteAt p 0
  kind := byteAt p 1
  level := byteAt p 2
  target := byteAt p 3
  alarmLine := byteAt p 4
  attributes := byteAt p 5
  na := byteAt p 6
  nc := byteAt p 7
  upper := le32 p 8
  lower := le32 p 12
  hysteresis := le32 p 16

/-- What a command code and its parameter bytes ask for (R37, R201, R202). -/
def decodeRequest (code : Byte) (params : List Byte) : Request :=
  if code = 0x00 then .nop
  else if code = 0x10 then .openSampleRing (le64 params 0) (le16 params 8)
  else if code = 0x11 then .closeSampleRing
  else if code = 0x12 then .openEventRing (le64 params 0) (le16 params 8) (byteAt params 10) (byteAt params 11)
  else if code = 0x13 then .closeEventRing
  else if code = 0x14 then .queryRing
  else if code = 0x20 then .bindStream (bindParams params)
  else if code = 0x21 then .unbindStream
  else if code = 0x22 then .reviveStream
  else if code = 0x23 then .queryStream
  else if code = 0x30 then .createWatch (watchParams params)
  else if code = 0x31 then .modifyWatch (watchParams params)
  else if code = 0x32 then .deleteWatch
  else if code = 0x33 then .armWatch
  else if code = 0x34 then .disarmWatch
  else if code = 0x35 then .ackWatch
  else if code = 0x36 then .queryWatch
  else if code = 0x40 then .release
  else if code = 0x41 then .setFloor (byteAt params 0)
  else if code = 0x50 then .configureAlarm (byteAt params 0)
  else if code = 0x51 then .releaseAlarm
  else .unknown code

/-- The request that a held command record makes. -/
def CommandRecord.request (r : CommandRecord) : Request := decodeRequest r.code r.params.toList

/-- The code of a request (R201). -/
def Request.code : Request → Byte
  | .nop => 0x00
  | .unknown code => code
  | .openSampleRing _ _ => 0x10
  | .closeSampleRing => 0x11
  | .openEventRing _ _ _ _ => 0x12
  | .closeEventRing => 0x13
  | .queryRing => 0x14
  | .bindStream _ => 0x20
  | .unbindStream => 0x21
  | .reviveStream => 0x22
  | .queryStream => 0x23
  | .createWatch _ => 0x30
  | .modifyWatch _ => 0x31
  | .deleteWatch => 0x32
  | .armWatch => 0x33
  | .disarmWatch => 0x34
  | .ackWatch => 0x35
  | .queryWatch => 0x36
  | .release => 0x40
  | .setFloor _ => 0x41
  | .configureAlarm _ => 0x50
  | .releaseAlarm => 0x51

/-- The bytes of BIND_STREAM's parameters (R202). -/
def BindParams.bytes (p : BindParams) : List Byte :=
  [p.sampleRing, p.eventRing, p.level, p.fallbackPresent] ++ bytes16 p.timeout ++ [0, 0] ++ bytes32 p.fallback

/-- The bytes of CREATE_WATCH's and MODIFY_WATCH's parameters (R202). -/
def WatchParams.bytes (p : WatchParams) : List Byte :=
  [p.stream, p.kind, p.level, p.target, p.alarmLine, p.attributes, p.na, p.nc]
    ++ bytes32 p.upper ++ bytes32 p.lower ++ bytes32 p.hysteresis

/-- The parameter bytes a request uses, from offset +8 on (R202). -/
def Request.paramBytes : Request → List Byte
  | .openSampleRing base slots => bytes64 base ++ bytes16 slots
  | .openEventRing base slots notify floor => bytes64 base ++ bytes16 slots ++ [notify, floor]
  | .bindStream p => p.bytes
  | .createWatch p | .modifyWatch p => p.bytes
  | .setFloor level => [level]
  | .configureAlarm mode => [mode]
  | .nop | .unknown _ | .closeSampleRing | .closeEventRing | .queryRing | .unbindStream | .reviveStream | .queryStream
  | .deleteWatch | .armWatch | .disarmWatch | .ackWatch | .queryWatch | .release | .releaseAlarm => []

/-- The command record of a request, with every parameter byte the request does not use 0. -/
def recordOf (h : CmdHeader) (q : Request) : CommandRecord where
  code := q.code
  flags := h.flags
  tag := h.tag
  index := h.index
  params := parameterBytes q.paramBytes

/-- The 32 bytes of a command record, with bytes +6 and +7 0 (R201). -/
def CommandRecord.bytes (r : CommandRecord) : Vector Byte 32 :=
  #v[r.code, r.flags, r.tag.extractLsb' 0 8, r.tag.extractLsb' 8 8, r.index.extractLsb' 0 8, r.index.extractLsb' 8 8, 0, 0] ++ r.params

/-- A request that has a command record of its own: an unknown code is no code of a command (R37). -/
def Request.wellFormed : Request → Bool
  | .unknown code => !commandCodes.contains code
  | _ => true

/-- The row of the table that a header and a request spell. -/
def rowOf (h : CmdHeader) : Request → Instr
  | .nop => .nop h
  | .unknown code => .unknownCommand code h
  | .openSampleRing base slots => .openSampleRing h base slots
  | .closeSampleRing => .closeSampleRing h
  | .openEventRing base slots notify floor => .openEventRing h base slots notify floor
  | .closeEventRing => .closeEventRing h
  | .queryRing => .queryRing h
  | .bindStream p => .bindStream h p
  | .unbindStream => .unbindStream h
  | .reviveStream => .reviveStream h
  | .queryStream => .queryStream h
  | .createWatch p => .createWatch h p
  | .modifyWatch p => .modifyWatch h p
  | .deleteWatch => .deleteWatch h
  | .armWatch => .armWatch h
  | .disarmWatch => .disarmWatch h
  | .ackWatch => .ackWatch h
  | .queryWatch => .queryWatch h
  | .release => .release h
  | .setFloor level => .setFloor h level
  | .configureAlarm mode => .configureAlarm h mode
  | .releaseAlarm => .releaseAlarm h

/-- The header and the request of a row that is a host command; none for every other row. -/
def Instr.request : Instr → Option (CmdHeader × Request)
  | .nop h => some (h, .nop)
  | .unknownCommand code h => some (h, .unknown code)
  | .openSampleRing h base slots => some (h, .openSampleRing base slots)
  | .closeSampleRing h => some (h, .closeSampleRing)
  | .openEventRing h base slots notify floor => some (h, .openEventRing base slots notify floor)
  | .closeEventRing h => some (h, .closeEventRing)
  | .queryRing h => some (h, .queryRing)
  | .bindStream h p => some (h, .bindStream p)
  | .unbindStream h => some (h, .unbindStream)
  | .reviveStream h => some (h, .reviveStream)
  | .queryStream h => some (h, .queryStream)
  | .createWatch h p => some (h, .createWatch p)
  | .modifyWatch h p => some (h, .modifyWatch p)
  | .deleteWatch h => some (h, .deleteWatch)
  | .armWatch h => some (h, .armWatch)
  | .disarmWatch h => some (h, .disarmWatch)
  | .ackWatch h => some (h, .ackWatch)
  | .queryWatch h => some (h, .queryWatch)
  | .release h => some (h, .release)
  | .setFloor h level => some (h, .setFloor level)
  | .configureAlarm h mode => some (h, .configureAlarm mode)
  | .releaseAlarm h => some (h, .releaseAlarm)
  | .start | .stop | .reset | .setupLo _ | .setupHi _ | .producerPost _ | .consumerPost _ | .timeLoRead _
  | .registerWriteIgnored _ _ _ | .hardwareReset | .rstNRelease | .memoryAccessGrant | .setupReadCompletion _
  | .commandFetchCompletion _ | .replyWriteCompletion _ | .shadowWriteCompletion _ | .sampleFetchCompletion _ _
  | .eventWriteCompletion _ _ | .overrunWriteCompletion _ _ | .completionDiscarded _ _ | .silenceExpiry _ | .timeBaseTick => none

/-- The host asks this of each row of the table: no row gives bits, so no word spells a command. -/
def decodeTableWord (_nbits _w : Nat) : Option Instr := none

end Sys2Proof
end

