-- ==== Sys2Proof/Config.lean ====
section
/-!
DEFINITION. The constants the spec fixes for the part, and the free values: what the spec leaves open is a constant with no body,
so that nothing can be proved about it.
-/

namespace Sys2Proof

/-- The part code that IDENT shows (R173, R207). -/
abbrev Config.partCode : BitVec 16 := 0x7324

/-- The revision that IDENT shows (R173, R207). -/
abbrev Config.revision : BitVec 8 := 2

/-- The number of entries of the pending pool (R130). -/
abbrev Config.poolSize : Nat := 64

/-- The number of watch ids a stream's watch list can hold (R53). -/
abbrev Config.watchListSize : Nat := 8

/-- The greatest number of records one sample fetch covers (R22). -/
abbrev Config.fetchLimit : Nat := 8

/-- FREE VALUE. The host address of the byte `offset` bytes past `base` where that sum is 2^64 or more: the spec gives
"base + i × record size" (R2) and 64-bit host addresses, and states no result there. DESIGN CHOICE, log 9, safe. -/
opaque Config.addressPastTop (base : Addr) (offset : Nat) : Addr

/-- FREE VALUE. The value carried by the WATCH_CLEAR of an ACK_WATCH in HELD when the watch has no last evaluated value (R122 names
that value, and no run reaches such a watch). DESIGN CHOICE, log 18, safe. -/
opaque Config.unevaluatedValue : Word

end Sys2Proof
end

