-- ==== Sys2Proof/Machine/State.lean ====
section
/-!
DEFINITION. The state of the TS24, block by block, as plain data, and its value after reset. Every field is one the spec names
(INVENTORY.md, "State", gives the rule of each), but `pinChanges`, `readData` and `pending`, which are the model's own.
-/

namespace Sys2Proof.Machine

/-! ## Stops -/

/-- The reasons for a fault outcome. There is none: an engine fault (R190) and a faulted ring (R5) are states of the part, in which it
goes on answering. -/
inductive Fault where
deriving DecidableEq, Repr

/-- The reasons for a refused command. -/
inductive Refusal where
  /-- No meaning yet: raised by an arm of `exec` alone. Safe. -/
  | notModelled (mnemonic : String)
  /-- A completion row, or the row of a host command, names an access that the part does not have on the host link, or brings another
  number of records than the fetch asked for. Completions return for accesses handed over and granted (R17 to R19), so no such event
  exists. Raised by every completion row and every host command row. Safe: the hardware never has the event (log 8). -/
  | noSuchAccess
  /-- COMPLETION_DISCARDED names an access of the current epoch while the engine is not in FAULT. Such a completion is passed to its
  block (R19, R21) and is the row of its kind. Raised by COMPLETION_DISCARDED alone. Safe (log 8). -/
  | notDiscarded
deriving DecidableEq, Repr

/-! ## Control unit (08, head of the chapter) -/

/-- The engine states (R176). -/
inductive EngineState where
  | idle | loading | run | stopping | stopped | fault
deriving DecidableEq, Repr

/-- The fault kinds (R189); `noFault` is NONE. -/
inductive FaultKind where
  | noFault | setupReadError | setupInvalid | commandReadError | replyWriteError | shadowWriteError | commandPostInvalid
  | replyPostInvalid
deriving DecidableEq, Repr

/-- What the control unit holds, and the input pin RST_N. -/
structure Control where
  engine        : EngineState
  heldStart     : Bool
  heldStop      : Bool
  setupAddr     : Addr
  faultKind     : FaultKind
  faultAddr     : Addr
  /-- the further-fault count, 0 to 255 (R191) -/
  furtherFaults : Nat
  timeBase      : Time
  timeCapture   : BitVec 16
  /-- RST_N is asserted (R196) -/
  rstAsserted   : Bool
deriving DecidableEq, Repr

/-! ## Rings (R1) -/

/-- The ring states (R5); `opened` is OPEN. -/
inductive RingState where
  | closed | opened | faulted
deriving DecidableEq, Repr

/-- The causes of a faulted ring (R1); `noCause` is NONE. -/
inductive RingCause where
  | noCause | badPost | accessError
deriving DecidableEq, Repr

/-- The fields every ring's descriptor has (R1). -/
structure Descriptor where
  state    : RingState
  base     : Addr
  slots    : Nat
  producer : Nat
  consumer : Nat
deriving DecidableEq, Repr

/-- The reply ring's descriptor (R1). `lap` is true for lap value 1 (R10). -/
structure ReplyRing extends Descriptor where
  lap       : Bool
  attention : Bool
deriving DecidableEq, Repr

/-- A sample ring's descriptor (R1). -/
structure SampleRing extends Descriptor where
  cause    : RingCause
  /-- the unrouted count, 0 to 65535 (R31) -/
  unrouted : Nat
deriving DecidableEq, Repr

/-- An event ring's descriptor (R1). -/
structure EventRing extends Descriptor where
  cause     : RingCause
  lap       : Bool
  attention : Bool
  notify    : Level
deriving DecidableEq, Repr

/-- What the ring manager holds (R1, R13, R14). -/
structure RingManager where
  command    : Descriptor
  reply      : ReplyRing
  sample     : Vector SampleRing 8
  event      : Vector EventRing 4
  shadowAddr : Addr
  shadowOwed : Bool
deriving DecidableEq, Repr

/-! ## Records the TS24 writes -/

/-- The four result words of a reply (R203). -/
structure Words where
  w0 : Word := 0
  w1 : Word := 0
  w2 : Word := 0
  w3 : Word := 0
deriving DecidableEq, Repr

/-- The statuses of a reply (R40). -/
inductive Status where
  | ok | unknownCommand | badArgument | notFound | inUse | wrongState | full | stillActive
deriving DecidableEq, Repr

/-- A reply record (R42, R203). -/
structure ReplyRecord where
  lap    : Bool
  status : Status
  tag    : BitVec 16
  code   : Byte
  words  : Words
deriving DecidableEq, Repr

/-- The kinds of an event (R130). -/
inductive EventKind where
  | watchAssert | watchClear | streamSilent
deriving DecidableEq, Repr

/-- What produced an event: a watch or a stream (R130). -/
inductive Source where
  | watch (id : Fin 128)
  | stream (id : Fin 64)
deriving DecidableEq, Repr

/-- A pending entry of the pool (R130). -/
structure PendingEntry where
  target    : Fin 4
  source    : Source
  stream    : Fin 64
  hold      : Bool
  firstKind : EventKind
  lastKind  : EventKind
  /-- 0 to 255 (R133) -/
  foldCount : Nat
  level     : Level
  value     : Word
  sequence  : Seq
  time      : Time
  fallback  : Bool
deriving DecidableEq, Repr

/-- An event record as its fields stand at the issue of its write (R146, R205). `overrun` stands for the record kind OVERRUN, which
carries no entry. -/
inductive EventRecord where
  | entry (lap : Bool) (e : PendingEntry)
  | overrun (lap : Bool) (carried : Nat) (time : Time)
deriving DecidableEq, Repr

/-! ## Memory access unit (R17 to R21) -/

/-- What an access does, with the contents of a write (R17). -/
inductive Payload where
  | setupRead
  | commandFetch
  | replyWrite (r : ReplyRecord)
  /-- the nine words of the shadow area, captured at the issue (R13, R15) -/
  | shadowWrite (indices : List Nat)
  /-- a fetch of `count` records (R22) -/
  | sampleFetch (count : Nat)
  /-- an event record write: an entry (R144) or an OVERRUN record (R145) -/
  | eventWrite (r : EventRecord)
deriving DecidableEq, Repr

/-- Where an access stands: waiting for a grant (R18), on the host link, or returned and discarded in FAULT, where it stays in flight
for its requester until the reset (R151, R190; log 24). -/
inductive AccessPhase where
  | waiting | onLink | returned
deriving DecidableEq, Repr

/-- An access handed over to the memory access unit (R17, R20). -/
structure Access where
  payload : Payload
  address : Addr
  epoch   : Nat
  phase   : AccessPhase
deriving DecidableEq, Repr

/-- What the memory access unit holds. -/
structure MemoryUnit where
  /-- the access in flight for each requester (R17) -/
  inFlight    : Vector (Option Access) 15
  /-- accesses of older epochs that are still on the host link, with their requesters (R20) -/
  stale       : List (Requester × Access)
  lastGranted : Requester
  epoch       : Nat
deriving DecidableEq, Repr

/-! ## Command engine (R32) -/

/-- The command engine states (R33). -/
inductive CommandPhase where
  | waiting | fetching | executing | replying
deriving DecidableEq, Repr

/-- What the command engine holds (R32). -/
structure CommandEngine where
  phase : CommandPhase
  held  : Option CommandRecord
  reply : Option ReplyRecord
deriving DecidableEq, Repr

/-! ## Sample intake (R51) -/

/-- The stream states (R52). -/
inductive StreamState where
  | unbound | bound | live | silent
deriving DecidableEq, Repr

/-- An entry of the stream table (R51). -/
structure Stream where
  state      : StreamState
  sampleRing : Fin 8
  eventRing  : Fin 4
  level      : Level
  /-- the silence timeout in milliseconds -/
  timeout    : BitVec 16
  fallback   : Option Word
  baseline   : Option Seq
  lastValue  : Word
  /-- the previous evaluated value -/
  previous   : Option Word
  /-- the held indication -/
  held       : Bool
  deadline   : Option Time
  missing    : Nat
  stale      : Nat
  bad        : Nat
  heldCount  : Nat
  watchList  : List (Fin 128)
deriving DecidableEq, Repr

/-! ## Screening unit (R79) -/

/-- The watch kinds (R79). -/
inductive WatchKind where
  | above | below | outside | step
deriving DecidableEq, Repr

/-- The watch states (R104). -/
inductive WatchState where
  | disarmed | clear | pendingAssert | asserted | pendingClear | held
deriving DecidableEq, Repr

/-- A watch in use (R79). -/
structure Watch where
  stream        : Fin 64
  kind          : WatchKind
  target        : Fin 4
  alarmLine     : Option (Fin 4)
  hold          : Bool
  latch         : Bool
  upper         : Word
  lower         : Word
  hysteresis    : Word
  na            : Nat
  nc            : Nat
  level         : Level
  state         : WatchState
  runCounter    : Nat
  acknowledged  : Bool
  assertCount   : Nat
  lastEvaluated : Option Word
deriving DecidableEq, Repr

/-! ## Delivery unit (R130, R140) -/

/-- What the delivery unit keeps for each event ring beside the pool (R135, R140). -/
structure Delivery where
  baseFloor  : Level
  /-- most recent level last (R140) -/
  floorStack : List Level
  /-- the lost count, 0 to 65535 -/
  lost       : Nat
  /-- an overrun is owed -/
  owed       : Bool
deriving DecidableEq, Repr

/-! ## Alarm unit (R160) -/

/-- The modes of an alarm line (R160). -/
inductive AlarmMode where
  | follow | latch
deriving DecidableEq, Repr

/-- An alarm line (R160); `asserted` is what its pin shows (R162). -/
structure AlarmLine where
  mode     : AlarmMode
  asserted : Bool
  count    : Nat
deriving DecidableEq, Repr

/-! ## Output pins (R162, R195, R208) -/

/-- The output pins: ATTN_N and ALM0 to ALM3. -/
inductive Pin where
  | attn
  | alm (a : Fin 4)
deriving DecidableEq, Repr

/-- A change of an output pin, with the level it goes to. -/
structure PinChange where
  pin  : Pin
  high : Bool
deriving DecidableEq, Repr

/-! ## The whole part -/

/-- The state of the TS24. -/
structure State where
  control  : Control
  mau      : MemoryUnit
  rings    : RingManager
  cmd      : CommandEngine
  streams  : Vector Stream 64
  /-- `none` is a free entry (R79) -/
  watches  : Vector (Option Watch) 128
  /-- pending entries of all four rings, oldest first (R130, R131; log 19) -/
  pool     : List PendingEntry
  delivery : Vector Delivery 4
  alarms   : Vector AlarmLine 4
  /-- the MODEL's own: every change of an output pin since `State.reset`, oldest first, those within one event included (R162; log 15) -/
  pinChanges : List PinChange
  /-- the MODEL's own: the word the last TIME_LO read put on the host link (log 13) -/
  readData : Word
  /-- the MODEL's own: the commands that wait, first in first out -/
  pending  : List Instr
deriving DecidableEq, Repr

/-! ## Reset values -/

/-- A descriptor after either reset (R1). -/
def Descriptor.atReset : Descriptor :=
  { state := .closed, base := 0, slots := 0, producer := 0, consumer := 0 }

/-- The reply ring after either reset (R1). -/
def ReplyRing.atReset : ReplyRing := { Descriptor.atReset with lap := true, attention := false }

/-- A sample ring after either reset (R1). -/
def SampleRing.atReset : SampleRing := { Descriptor.atReset with cause := .noCause, unrouted := 0 }

/-- An event ring after either reset (R1). -/
def EventRing.atReset : EventRing :=
  { Descriptor.atReset with cause := .noCause, lap := true, attention := false, notify := 0 }

/-- The ring manager after a hardware reset (R1). -/
def RingManager.atReset : RingManager where
  command := Descriptor.atReset
  reply := ReplyRing.atReset
  sample := Vector.replicate 8 SampleRing.atReset
  event := Vector.replicate 4 EventRing.atReset
  shadowAddr := 0
  shadowOwed := false

/-- The command engine after either reset (R32). -/
def CommandEngine.atReset : CommandEngine := { phase := .waiting, held := none, reply := none }

/-- A stream table entry after either reset (R51). -/
def Stream.atReset : Stream where
  state := .unbound
  sampleRing := 0
  eventRing := 0
  level := 0
  timeout := 0
  fallback := none
  baseline := none
  lastValue := 0
  previous := none
  held := false
  deadline := none
  missing := 0
  stale := 0
  bad := 0
  heldCount := 0
  watchList := []

/-- An event ring's delivery state after either reset (R159). -/
def Delivery.atReset : Delivery := { baseFloor := 0, floorStack := [], lost := 0, owed := false }

/-- An alarm line after a hardware reset (R171). -/
def AlarmLine.atReset : AlarmLine := { mode := .follow, asserted := false, count := 0 }

/-- The control unit after a hardware reset (08, head of the chapter), with RST_N released (DEDUCED, log 1). -/
def Control.atReset : Control where
  engine := .idle
  heldStart := false
  heldStop := false
  setupAddr := 0
  faultKind := .noFault
  faultAddr := 0
  furtherFaults := 0
  timeBase := 0
  timeCapture := 0
  rstAsserted := false

/-- The memory access unit after the power-up reset (R18, R20). The epoch's value is a DESIGN CHOICE (log 2, unsafe). -/
def MemoryUnit.atReset : MemoryUnit where
  inFlight := Vector.replicate 15 none
  stale := []
  lastGranted := 14
  epoch := 0

/-- The part right after its power-up reset: every field at the value the spec gives for a hardware reset, RST_N just released, and
nothing in the queue. -/
def State.reset : State where
  control := Control.atReset
  mau := MemoryUnit.atReset
  rings := RingManager.atReset
  cmd := CommandEngine.atReset
  streams := Vector.replicate 64 Stream.atReset
  watches := Vector.replicate 128 none
  pool := []
  delivery := Vector.replicate 4 Delivery.atReset
  alarms := Vector.replicate 4 AlarmLine.atReset
  pinChanges := []
  readData := 0
  pending := []

end Sys2Proof.Machine
end

