-- ==== Sys2Proof/Machine/Pins.lean ====
section
/-!
DEFINITION. The output pins: what ATTN_N (R195) and ALM0 to ALM3 (R162) follow, their levels (R208), and the record of their changes.
Every update of the state that can change what a pin follows notes the change, so a pin that falls and rises within one event leaves
both (log 15).
-/

namespace Sys2Proof.Machine

/-- A ring's faulted indication (R12). -/
def Descriptor.isFaulted (d : Descriptor) : Bool := d.state == .faulted

/-- ATTN_N is asserted exactly while one of these conditions holds (R195). While RST_N is asserted every one of them is at its reset
value, so ATTN_N is deasserted (R196). -/
def attention (s : State) : Bool :=
  s.rings.reply.attention
    || (List.finRange 4).any (fun n => s.rings.event[n].attention)
    || (List.finRange 8).any (fun n => s.rings.sample[n].isFaulted)
    || (List.finRange 4).any (fun n => s.rings.event[n].isFaulted)
    || s.control.engine == .fault

/-- The level of the pin ATTN_N: low while attention is asserted (R195, R208). -/
def attnPinHigh (s : State) : Bool := !attention s

/-- The level of pin ALM`a`: high while the line is asserted (R162, R208). -/
def almPinHigh (a : Fin 4) (s : State) : Bool := s.alarms[a].asserted

/-- The change of a pin between two levels, if it is one. -/
def pinStep (p : Pin) (before after : Bool) : List PinChange := if before = after then [] else [{ pin := p, high := after }]

/-- The state `t`, with the change of ATTN_N from the state `s` noted (R195). -/
def noteAttention (s t : State) : State := { t with pinChanges := t.pinChanges ++ pinStep .attn (attnPinHigh s) (attnPinHigh t) }

/-- The state `t`, with the changes of all five pins from the state `s` noted. -/
def notePins (s t : State) : State :=
  { t with
    pinChanges := t.pinChanges ++ (pinStep .attn (attnPinHigh s) (attnPinHigh t) ++
      (List.finRange 4).flatMap fun a => pinStep (.alm a) (almPinHigh a s) (almPinHigh a t)) }

end Sys2Proof.Machine
end

