-- ==== Sys2Proof/Machine/Ops.lean ====
section
/-!
DEFINITION. The operations the blocks share: updates of one block's part of the state, saturating counters, ring indices (R3, R4),
slot addresses (R2), the memory access unit (R17 to R21), the fault report (R190, R191), and the starts of accesses at each event that
the spec lists for them (R15, R34, R54).
-/

namespace Sys2Proof.Machine

/-! ## Updates of one part of the state -/

/-- Change what the control unit holds. -/
def State.mapControl (f : Control → Control) (s : State) : State := { s with control := f s.control }

/-- Change what the memory access unit holds. -/
def State.mapMau (f : MemoryUnit → MemoryUnit) (s : State) : State := { s with mau := f s.mau }

/-- Change what the ring manager holds. -/
def State.mapRings (f : RingManager → RingManager) (s : State) : State := { s with rings := f s.rings }

/-- Replace what the command engine holds. -/
def State.setCmd (c : CommandEngine) (s : State) : State := { s with cmd := c }

/-- Replace a stream table entry. -/
def State.setStream (i : Fin 64) (x : Stream) (s : State) : State := { s with streams := s.streams.set i x }

/-- Replace a watch table entry. -/
def State.setWatch (w : Fin 128) (x : Option Watch) (s : State) : State := { s with watches := s.watches.set w x }

/-- Replace the pending pool. -/
def State.setPool (p : List PendingEntry) (s : State) : State := { s with pool := p }

/-- Replace an event ring's delivery state. -/
def State.setDelivery (n : Fin 4) (d : Delivery) (s : State) : State := { s with delivery := s.delivery.set n d }

/-- Replace an alarm line; its pin changes with the asserted state (R162). -/
def State.setAlarm (a : Fin 4) (l : AlarmLine) (s : State) : State :=
  { s with
    alarms := s.alarms.set a l
    pinChanges := s.pinChanges ++ pinStep (.alm a) (almPinHigh a s) l.asserted }

/-- Replace the command ring's descriptor. -/
def State.setCommandRing (d : Descriptor) (s : State) : State := s.mapRings fun r => { r with command := d }

/-- Replace the reply ring's descriptor; ATTN_N follows (R195). -/
def State.setReplyRing (d : ReplyRing) (s : State) : State := noteAttention s (s.mapRings fun r => { r with reply := d })

/-- Replace a sample ring's descriptor; ATTN_N follows (R195). -/
def State.setSampleRing (n : Fin 8) (d : SampleRing) (s : State) : State :=
  noteAttention s (s.mapRings fun r => { r with sample := r.sample.set n d })

/-- Replace an event ring's descriptor; ATTN_N follows (R195). -/
def State.setEventRing (n : Fin 4) (d : EventRing) (s : State) : State :=
  noteAttention s (s.mapRings fun r => { r with event := r.event.set n d })

/-- Say whether a shadow write is owed (R14). -/
def State.setShadowOwed (b : Bool) (s : State) : State := s.mapRings fun r => { r with shadowOwed := b }

/-- Set the engine state (R176). -/
def State.setEngine (e : EngineState) (s : State) : State := s.mapControl fun c => { c with engine := e }

/-! ## Counters -/

/-- A saturating sum: it stops at `cap` (00_scope.md section 6). -/
def satAdd (cap n k : Nat) : Nat := min cap (n + k)

/-- A 16-bit saturating sum. -/
def sat16 (n k : Nat) : Nat := satAdd 65535 n k

/-- An 8-bit saturating sum. -/
def sat8 (n k : Nat) : Nat := satAdd 255 n k

/-! ## Ring indices and geometry (R2 to R4) -/

/-- (a − b) mod slots (R3). -/
def ringDiff (slots a b : Nat) : Nat := (a + (slots - b % slots)) % slots

/-- The count of a ring (R3). -/
def Descriptor.count (d : Descriptor) : Nat := ringDiff d.slots d.producer d.consumer

/-- A written ring has a free slot while its count is below slots − 1 (R3). -/
def Descriptor.hasFreeSlot (d : Descriptor) : Bool := d.count < d.slots - 1

/-- An index advanced by `k`, modulo the slot count (R4). -/
def Descriptor.advance (d : Descriptor) (i k : Nat) : Nat := (i + k) % d.slots

/-- The lap value after a write completion: it changes when the producer index goes from slots − 1 to 0 (R10). -/
def Descriptor.nextLap (d : Descriptor) (lap : Bool) : Bool := if d.producer + 1 = d.slots then !lap else lap

/-- The host address `offset` bytes past `base`; past 2^64 the sum is a free value (log 9). -/
def addressAt (base : Addr) (offset : Nat) : Addr :=
  if base.toNat + offset < 2 ^ 64 then BitVec.ofNat 64 (base.toNat + offset) else Config.addressPastTop base offset

/-- The address of slot `i` of a ring whose records have `size` bytes (R2). -/
def Descriptor.slotAddress (d : Descriptor) (size i : Nat) : Addr := addressAt d.base (i * size)

/-- A power of two (R2); slot counts are 16-bit fields. -/
def isPowerOfTwo (n : Nat) : Bool := (List.range 16).any fun k => n == 2 ^ k

/-- The geometry check of R2: a slot count that is a power of two from `lo` to `hi`, and a base that is a multiple of 64. -/
def validGeometry (lo hi : Nat) (base : Addr) (slots : Nat) : Bool :=
  isPowerOfTwo slots && lo ≤ slots && slots ≤ hi && base.toNat % 64 == 0

/-! ## The memory access unit (R17 to R21) -/

/-- The requester of shadow writes (R17). -/
def shadowRequester : Requester := 0

/-- The requester of command fetches and of the setup read (R17). -/
def commandRequester : Requester := 1

/-- The requester of reply writes (R17). -/
def replyRequester : Requester := 2

/-- The requester of fetches from sample ring `n` (R17). -/
def sampleRequester (n : Fin 8) : Requester := ⟨3 + n.val, by omega⟩

/-- The requester of writes to event ring `n` (R17). -/
def eventRequester (n : Fin 4) : Requester := ⟨11 + n.val, by omega⟩

/-- The access in flight for a requester. -/
def State.access (s : State) (r : Requester) : Option Access := s.mau.inFlight[r]

/-- A requester has an access in flight (R17). -/
def State.busy (s : State) (r : Requester) : Bool := (s.access r).isSome

/-- Set the access in flight for a requester. -/
def State.setAccess (r : Requester) (a : Option Access) (s : State) : State :=
  s.mapMau fun m => { m with inFlight := m.inFlight.set r a }

/-- Hand an access over to the memory access unit: it waits for its grant and carries the current epoch (R17, R20). -/
def handOver (r : Requester) (p : Payload) (address : Addr) (s : State) : State :=
  s.setAccess r (some { payload := p, address := address, epoch := s.mau.epoch, phase := .waiting })

/-- An access that waits for a grant (R18). -/
def isWaiting : Option Access → Bool
  | some a => a.phase == .waiting
  | none => false

/-- The fifteen requesters in the rotating order that follows the last one granted (R18). -/
def grantOrder (last : Requester) : List Requester := (List.range 15).map fun k => Fin.ofNat 15 (last.val + 1 + k)

/-- The requester that the next grant goes to (R18). -/
def nextGrant (m : MemoryUnit) : Option Requester := (grantOrder m.lastGranted).find? fun r => isWaiting m.inFlight[r]

/-- The accesses on the host link, with their requesters. -/
def MemoryUnit.onLink (m : MemoryUnit) : List (Requester × Access) :=
  (List.finRange 15).filterMap fun r =>
    match m.inFlight[r] with
    | some a => if a.phase = .onLink then some (r, a) else none
    | none => none

/-- What either reset does to the memory access unit: waiting accesses are abandoned, accesses on the link become accesses of an older
epoch, the epoch advances by 1 and the last-granted number is 14 (R18, R20). -/
def MemoryUnit.afterReset (m : MemoryUnit) : MemoryUnit where
  inFlight := Vector.replicate 15 none
  stale := m.stale ++ m.onLink
  lastGranted := 14
  epoch := m.epoch + 1

/-- What a completion row finds. -/
inductive Arrival where
  /-- the requester has no access of that kind on the link -/
  | absent
  /-- the engine is in FAULT: the completion is discarded (R21) -/
  | discarded (s : State)
  /-- the access is returned to its block, and its requester is free -/
  | delivered (a : Access) (s : State)

/-- The completion of the access of requester `r` arrives (R19, R21). -/
def arrive (r : Requester) (kind : Payload → Bool) (s : State) : Arrival :=
  match s.access r with
  | none => .absent
  | some a =>
    if a.phase = .onLink ∧ kind a.payload = true then
      if s.control.engine = .fault then .discarded (s.setAccess r (some { a with phase := .returned }))
      else .delivered a (s.setAccess r none)
    else .absent

/-- The outcome of a completion row: `deliver` is what the block does with a completion that reaches it. -/
def onArrival (r : Requester) (kind : Payload → Bool) (s : State) (deliver : Access → State → State) :
    Host.Outcome State Fault Refusal :=
  match arrive r kind s with
  | .absent => .refused .noSuchAccess
  | .discarded t => .next t
  | .delivered a t => .next (deliver a t)

/-! ## Faults (R189 to R191, R9, R23, R24) -/

/-- The control unit after a fault report: the first is recorded, a later one is counted (R191), and the engine is in FAULT with no held
request (R190). -/
def Control.reported (k : FaultKind) (address : Addr) (c : Control) : Control :=
  if c.faultKind = .noFault then
    { c with faultKind := k, faultAddr := address, engine := .fault, heldStart := false, heldStop := false }
  else
    { c with furtherFaults := sat8 c.furtherFaults 1, engine := .fault, heldStart := false, heldStop := false }

/-- A fault report (R190); ATTN_N follows (R195). -/
def faultReport (k : FaultKind) (address : Addr) (s : State) : State := noteAttention s (s.mapControl (Control.reported k address))

/-- A sample ring's fault: an OPEN ring becomes FAULTED with the cause; a ring that is FAULTED keeps its first cause (R5). -/
def SampleRing.faultWith (cause : RingCause) (r : SampleRing) : SampleRing :=
  if r.state = .opened then { r with state := .faulted, cause := cause } else r

/-- An event ring's fault (R5). -/
def EventRing.faultWith (cause : RingCause) (r : EventRing) : EventRing :=
  if r.state = .opened then { r with state := .faulted, cause := cause } else r

/-! ## Starting accesses -/

/-- The nine words of the shadow area: the consumer indices of the command ring and of sample rings 0 to 7 (R13). -/
def shadowIndices (r : RingManager) : List Nat :=
  r.command.consumer :: (List.finRange 8).map fun n => r.sample[n].consumer

/-- The ring manager's check (R15): an owed shadow write is issued while none is in flight and the engine is RUN or STOPPING. -/
def issueShadowWrite (s : State) : State :=
  if s.rings.shadowOwed ∧ ¬ s.busy shadowRequester ∧ (s.control.engine = .run ∨ s.control.engine = .stopping) then
    handOver shadowRequester (.shadowWrite (shadowIndices s.rings)) s.rings.shadowAddr (s.setShadowOwed false)
  else s

/-- The conditions of R34. -/
def canFetchCommand (s : State) : Bool :=
  s.cmd.phase == .waiting && s.control.engine == .run && s.rings.command.state == .opened && 0 < s.rings.command.count
    && s.rings.reply.hasFreeSlot

/-- The command engine's check (R34, R35): it starts a fetch of the slot at the command ring's consumer index. -/
def startCommandFetch (s : State) : State :=
  if canFetchCommand s then
    handOver commandRequester .commandFetch (s.rings.command.slotAddress 32 s.rings.command.consumer)
      (s.setCmd { s.cmd with phase := .fetching })
  else s

/-- The number of records a fetch from a sample ring covers: the least of 8, the count, and slots − consumer index (R22). -/
def fetchCount (d : Descriptor) : Nat := min Config.fetchLimit (min d.count (d.slots - d.consumer))

/-- The conditions of R22 and R54 for sample ring `n`. -/
def canFetchSamples (n : Fin 8) (s : State) : Bool :=
  s.control.engine == .run && s.rings.sample[n].state == .opened && 0 < s.rings.sample[n].count && !s.busy (sampleRequester n)

/-- The sample intake's check for ring `n` (R54). -/
def startSampleFetch (n : Fin 8) (s : State) : State :=
  if canFetchSamples n s then
    let d := s.rings.sample[n].toDescriptor
    handOver (sampleRequester n) (.sampleFetch (fetchCount d)) (d.slotAddress 8 d.consumer) s
  else s

/-- The sample intake's checks at an entry into RUN (R54, R184). -/
def startSampleFetches (s : State) : State := (List.finRange 8).foldl (fun t n => startSampleFetch n t) s

end Sys2Proof.Machine
end

