-- ==== Sys2Proof/Machine/Alarm.lean ====
section
/-!
DEFINITION. The alarm lines and the contribution reports they take (R161 to R164). The two host commands stand in AlarmCommands.lean.
-/

namespace Sys2Proof.Machine

/-- A begin report (R161): the count increases by 1. A FOLLOW line is then asserted (R163); a LATCH line becomes asserted when the count
went from 0 to 1, unless it is asserted already (R164). -/
def AlarmLine.beginReport (l : AlarmLine) : AlarmLine :=
  { l with
    count := l.count + 1
    asserted := match l.mode with
      | .follow => true
      | .latch => l.asserted || l.count == 0 }

/-- An end report (R161): the count decreases by 1. A FOLLOW line is asserted exactly while the count is above 0 (R163); a LATCH line
keeps its state (R164). -/
def AlarmLine.endReport (l : AlarmLine) : AlarmLine :=
  { l with
    count := l.count - 1
    asserted := match l.mode with
      | .follow => decide (0 < l.count - 1)
      | .latch => l.asserted }

/-- A watch's contribution to its line begins; a watch with no line makes no report (R127). -/
def beginContribution (line : Option (Fin 4)) (s : State) : State :=
  match line with
  | some a => s.setAlarm a s.alarms[a].beginReport
  | none => s

/-- A watch's contribution to its line ends (R127). -/
def endContribution (line : Option (Fin 4)) (s : State) : State :=
  match line with
  | some a => s.setAlarm a s.alarms[a].endReport
  | none => s

/-- What a soft reset does to a line: count 0, mode kept; a FOLLOW line is deasserted and a LATCH line keeps its state (R170). -/
def AlarmLine.afterSoftReset (l : AlarmLine) : AlarmLine :=
  { l with
    count := 0
    asserted := match l.mode with
      | .follow => false
      | .latch => l.asserted }

end Sys2Proof.Machine
end

