-- ==== Sys2Proof/Machine/Operands.lean ====
section
/-!
DEFINITION. The records of chapter 9 as the blocks read and write them: the setup block (R200), sample records (R204), the index and
parameter fields with their ranges (R84, R201, R202), and the bytes of the reply records, event records and shadow area that the TS24
writes (R203, R205, R206).
-/

namespace Sys2Proof.Machine

/-! ## Numbers of fields with a range -/

/-- An unsigned field that names one of `n` things, where it is below `n` (R199). -/
def fieldBelow (n : Nat) {w : Nat} (x : BitVec w) : Option (Fin n) := if h : x.toNat < n then some ⟨x.toNat, h⟩ else none

/-- The clear flag: bit 0 of the flags byte (R201). -/
def clearFlag (flags : Byte) : Bool := flags.getLsbD 0

/-- The kind of a watch by its code (R202). -/
def watchKind (code : Byte) : Option WatchKind :=
  if code = 1 then some .above
  else if code = 2 then some .below
  else if code = 3 then some .outside
  else if code = 4 then some .step
  else none

/-- The alarm line of a watch: FFh for none, or 0 to 3 (R84). The outer `none` is a code out of range. -/
def watchAlarmLine (code : Byte) : Option (Option (Fin 4)) :=
  if code = 0xFF then some none else (fieldBelow 4 code).map some

/-- The mode of an alarm line by its code (R202). -/
def alarmMode (code : Byte) : Option AlarmMode := if code = 0 then some .follow else if code = 1 then some .latch else none

/-! ## The setup block (R200) -/

/-- The fields of the setup block. -/
structure SetupBlock where
  commandBase  : Addr
  replyBase    : Addr
  shadowAddr   : Addr
  commandSlots : BitVec 16
  replySlots   : BitVec 16
deriving DecidableEq, Repr

/-- The 28 bytes of the setup block (R200). -/
def setupBlock (bytes : List Byte) : SetupBlock where
  commandBase := le64 bytes 0
  replyBase := le64 bytes 8
  shadowAddr := le64 bytes 16
  commandSlots := le16 bytes 24
  replySlots := le16 bytes 26

/-- The conditions of R182. -/
def SetupBlock.valid (b : SetupBlock) : Bool :=
  validGeometry 8 1024 b.commandBase b.commandSlots.toNat && validGeometry 8 1024 b.replyBase b.replySlots.toNat
    && b.shadowAddr.toNat % 8 == 0

/-! ## Sample records (R204) -/

/-- The fields of a sample record. -/
structure SampleRecord where
  stream   : Byte
  bad      : Bool
  sequence : Seq
  value    : Word
deriving DecidableEq, Repr

/-- The 8 bytes of a sample record (R204); bits 7 to 1 of the flags byte are ignored. -/
def sampleRecord (bytes : List Byte) : SampleRecord where
  stream := byteAt bytes 0
  bad := (byteAt bytes 1).getLsbD 0
  sequence := le16 bytes 2
  value := le32 bytes 4

/-! ## Codes of result words and records (R203, R205, R207) -/

/-- Status codes (R203). -/
def Status.code : Status → Byte
  | .ok => 0
  | .unknownCommand => 1
  | .badArgument => 2
  | .notFound => 3
  | .inUse => 4
  | .wrongState => 5
  | .full => 6
  | .stillActive => 7

/-- Ring state codes (R203). -/
def RingState.code : RingState → Byte
  | .closed => 0
  | .opened => 1
  | .faulted => 2

/-- Ring cause codes (R203). -/
def RingCause.code : RingCause → Byte
  | .noCause => 0
  | .badPost => 1
  | .accessError => 2

/-- Stream state codes (R203). -/
def StreamState.code : StreamState → Byte
  | .unbound => 0
  | .bound => 1
  | .live => 2
  | .silent => 3

/-- Watch state codes (R203). -/
def WatchState.code : WatchState → Byte
  | .disarmed => 0
  | .clear => 1
  | .pendingAssert => 2
  | .asserted => 3
  | .pendingClear => 4
  | .held => 5

/-- Watch kind codes (R203). -/
def WatchKind.code : WatchKind → Byte
  | .above => 1
  | .below => 2
  | .outside => 3
  | .step => 4

/-- Alarm mode codes (R203). -/
def AlarmMode.code : AlarmMode → Byte
  | .follow => 0
  | .latch => 1

/-- Event kind codes (R205); OVERRUN has code 4. -/
def EventKind.code : EventKind → Byte
  | .watchAssert => 1
  | .watchClear => 2
  | .streamSilent => 3

/-- A flag as a result word: 1 or 0. -/
def flagWord (b : Bool) : Word := if b then 1 else 0

/-- A number as a result word. -/
def numWord (n : Nat) : Word := BitVec.ofNat 32 n

/-- A level as a result word. -/
def levelWord (l : Level) : Word := numWord l.val

/-! ## Bytes of the records the TS24 writes -/

/-- A lap value as its byte (R10). -/
def lapByte (lap : Bool) : Byte := if lap then 1 else 0

/-- The 32 bytes of a reply record (R203). -/
def ReplyRecord.bytes (r : ReplyRecord) : List Byte :=
  [lapByte r.lap, r.status.code] ++ bytes16 r.tag ++ [r.code] ++ List.replicate 11 0
    ++ bytes32 r.words.w0 ++ bytes32 r.words.w1 ++ bytes32 r.words.w2 ++ bytes32 r.words.w3

/-- The level of an event record: its entry's, and 7 for OVERRUN (R146). -/
def EventRecord.level : EventRecord → Level
  | .entry _ e => e.level
  | .overrun _ _ _ => 7

/-- The record is of a watch with the hold attribute, so its completed write pushes its level (R147). -/
def EventRecord.holds : EventRecord → Bool
  | .entry _ e => e.hold
  | .overrun _ _ _ => false

/-- FOLDED_FIRST_ASSERT: the fold count is above 0 and the first kind is WATCH_ASSERT (R146). -/
def PendingEntry.foldedFirstAssert (e : PendingEntry) : Bool := 0 < e.foldCount && e.firstKind == .watchAssert

/-- The watch id byte: the source watch, FFh for a stream source (R146). -/
def Source.watchByte : Source → Byte
  | .watch id => BitVec.ofNat 8 id.val
  | .stream _ => 0xFF

/-- The flags byte of an entry's record (R205). -/
def PendingEntry.flagsByte (e : PendingEntry) : Byte :=
  (if e.fallback then 1 else 0) ||| (if e.foldedFirstAssert then 2 else 0)

/-- The 8 bytes of the time field: the time base value in bits 47 to 0 (R205). -/
def timeBytes (t : Time) : List Byte := bytes64 (t.setWidth 64)

/-- The 32 bytes of an event record (R146, R205). -/
def EventRecord.bytes : EventRecord → List Byte
  | .entry lap e =>
    [lapByte lap, e.lastKind.code, BitVec.ofNat 8 e.level.val, BitVec.ofNat 8 e.foldCount, e.source.watchByte,
      BitVec.ofNat 8 e.stream.val, e.flagsByte, 0] ++ bytes16 e.sequence ++ [0, 0] ++ bytes32 e.value ++ timeBytes e.time
      ++ List.replicate 8 0
  | .overrun lap carried time =>
    [lapByte lap, 4, 7, 0, 0xFF, 0, 0, 0] ++ List.replicate 8 0 ++ timeBytes time ++ bytes16 (BitVec.ofNat 16 carried)
      ++ List.replicate 6 0

/-- The 36 bytes of the shadow area: each index in bits 15 to 0 of its word (R206). -/
def shadowBytes (indices : List Nat) : List Byte :=
  (indices.map fun i => bytes32 ((BitVec.ofNat 16 i).setWidth 32)).flatten

/-- The bytes a write access carries; a read carries none (R199). -/
def Payload.bytes : Payload → List Byte
  | .replyWrite r => r.bytes
  | .shadowWrite indices => shadowBytes indices
  | .eventWrite r => r.bytes
  | .setupRead | .commandFetch | .sampleFetch _ => []

/-- The size of an access in bytes (R17, R199). -/
def Payload.size : Payload → Nat
  | .setupRead => 28
  | .commandFetch | .replyWrite _ | .eventWrite _ => 32
  | .shadowWrite _ => 36
  | .sampleFetch count => 8 * count

end Sys2Proof.Machine
end

