-- ==== Sys2Proof/Machine/Delivery.lean ====
section
/-!
DEFINITION. The delivery unit (chapter 6): hand-overs that fold, allocate or lose an event (R132 to R135), withdrawals and level raises
(R137, R138), floors (R140), and the writer of each event ring (R142 to R146). Its two host commands stand in DeliveryCommands.lean.
-/

namespace Sys2Proof.Machine

/-- An event as it is handed over (R132). -/
structure Event where
  source   : Source
  kind     : EventKind
  target   : Fin 4
  level    : Level
  hold     : Bool
  stream   : Fin 64
  value    : Word
  sequence : Seq
  time     : Time
  fallback : Bool
deriving DecidableEq, Repr

/-! ## Floors and the pending order -/

/-- The current floor: the most recent level on the stack, or the base floor when it is empty (R140). -/
def Delivery.currentFloor (d : Delivery) : Level := d.floorStack.getLast?.getD d.baseFloor

/-- The pending order of ring `n`, oldest first (R131). -/
def pendingOrder (n : Fin 4) (pool : List PendingEntry) : List PendingEntry := pool.filter fun e => e.target == n

/-- The pending entry of a source, if it has one (R131: it has at most one). -/
def pendingOf (source : Source) (pool : List PendingEntry) : Option PendingEntry := pool.find? fun e => e.source == source

/-- The deliverable entries of ring `n`, oldest first (R140). -/
def deliverable (n : Fin 4) (s : State) : List PendingEntry :=
  (pendingOrder n s.pool).filter fun e => s.delivery[n].currentFloor < e.level

/-- The better of the choice so far and the next entry of the pending order: a higher level only, so the oldest of the highest level
stays chosen (R143). -/
def betterEntry (best : Option PendingEntry) (e : PendingEntry) : Option PendingEntry :=
  match best with
  | none => some e
  | some b => if b.level < e.level then some e else some b

/-- The entry the writer of ring `n` takes: the oldest of the highest level among the deliverable ones (R143). -/
def chosenEntry (n : Fin 4) (s : State) : Option PendingEntry := (deliverable n s).foldl betterEntry none

/-! ## The writer of an event ring -/

/-- The first four conditions of R142. -/
def writerReady (n : Fin 4) (s : State) : Bool :=
  s.rings.event[n].state == .opened && s.control.engine == .run && !s.busy (eventRequester n) && s.rings.event[n].hasFreeSlot

/-- Hand the write of a record to the memory access unit, at the slot at the producer index (R24). -/
def issueRecord (n : Fin 4) (r : EventRecord) (s : State) : State :=
  handOver (eventRequester n) (.eventWrite r) (s.rings.event[n].slotAddress 32 s.rings.event[n].producer) s

/-- The writer of ring `n` checks its conditions (R142) and issues one record: an owed OVERRUN (R145), or else the chosen entry, which
leaves the pool (R144). The record is fixed here, with the ring's lap value (R10, R146). -/
def checkWriter (n : Fin 4) (s : State) : State :=
  if writerReady n s then
    if s.delivery[n].owed then
      issueRecord n (.overrun s.rings.event[n].lap s.delivery[n].lost s.control.timeBase) s
    else
      match chosenEntry n s with
      | some e => issueRecord n (.entry s.rings.event[n].lap e) (s.setPool (s.pool.erase e))
      | none => s
  else s

/-- The four writers check their conditions at an entry into RUN (R142, R184). -/
def checkWriters (s : State) : State := (List.finRange 4).foldl (fun t n => checkWriter n t) s

/-! ## Hand-overs -/

/-- The entry an event is placed in (R134). -/
def Event.newEntry (e : Event) : PendingEntry where
  target := e.target
  source := e.source
  stream := e.stream
  hold := e.hold
  firstKind := e.kind
  lastKind := e.kind
  foldCount := 0
  level := e.level
  value := e.value
  sequence := e.sequence
  time := e.time
  fallback := e.fallback

/-- The greater of two levels. -/
def maxLevel (a b : Level) : Level := if a < b then b else a

/-- An event folds into the pending entry of its source (R133). -/
def PendingEntry.fold (p : PendingEntry) (e : Event) : PendingEntry :=
  { p with
    lastKind := e.kind
    foldCount := sat8 p.foldCount 1
    level := maxLevel p.level e.level
    value := e.value
    sequence := e.sequence
    time := e.time
    fallback := e.fallback }

/-- The loss of one event or record of a ring: its lost count increases by 1, saturating, and an overrun is owed (R135, R149). -/
def Delivery.countLoss (d : Delivery) : Delivery := { d with lost := sat16 d.lost 1, owed := true }

/-- A hand-over is folded, allocated or lost, and the ring's writer then checks its conditions, within the same event (R132 to R135,
R142; log 12). -/
def handEvent (e : Event) (s : State) : State :=
  match pendingOf e.source s.pool with
  | some p => checkWriter p.target (s.setPool (s.pool.map fun q => if q.source = e.source then q.fold e else q))
  | none =>
    if s.pool.length < Config.poolSize then checkWriter e.target (s.setPool (s.pool ++ [e.newEntry]))
    else checkWriter e.target (s.setDelivery e.target s.delivery[e.target].countLoss)

/-! ## Withdrawal and level raise -/

/-- A source has a pending entry (R139). -/
def hasPending (source : Source) (s : State) : Bool := (pendingOf source s.pool).isSome

/-- Withdraw a source's pending entry, if it has one (R137). -/
def withdraw (source : Source) (s : State) : State := s.setPool (s.pool.filter fun e => e.source != source)

/-- Raise the level of a watch's pending entry, if it has one, and let the ring's writer check its conditions (R138). -/
def raiseLevel (source : Source) (level : Level) (s : State) : State :=
  match pendingOf source s.pool with
  | some p =>
    checkWriter p.target
      (s.setPool (s.pool.map fun q => if q.source = source then { q with level := maxLevel q.level level } else q))
  | none => s

/-- A write of a record with hold is in flight to ring `n` (R154). -/
def holdWriteInFlight (n : Fin 4) (s : State) : Bool :=
  match s.access (eventRequester n) with
  | some { payload := .eventWrite r, .. } => r.holds
  | _ => false

end Sys2Proof.Machine
end

