-- ==== Sys2Proof/Machine/Screening.lean ====
section
/-!
DEFINITION. The screening unit (chapters 4 and 5): verdicts (R81, R82), the persistence state machine in normal mode (R106 to R109) and
in substitute mode (R115, R116), run breaks (R112), and the walk of a stream's watch list (R102). Its host commands stand in
WatchCommands.lean.
-/

namespace Sys2Proof.Machine

/-! ## Verdicts -/

/-- The three verdicts (04 section 4.2). -/
inductive Verdict where
  | fire | clear | neutral
deriving DecidableEq, Repr

/-- The verdict of a test that fires above `upper` and clears at `upper − h` and below. -/
def verdictAbove (v upper h : Int) : Verdict := if upper < v then .fire else if v ≤ upper - h then .clear else .neutral

/-- The verdict of a watch on the value `v` (R81), in exact integers. `p` is the stream's previous evaluated value, or `none` where it
is absent or the value is a substitute: a STEP watch then gives no verdict (R82). -/
def Watch.verdict (w : Watch) (v : Int) (p : Option Int) : Option Verdict :=
  let upper := w.upper.toInt
  let lower := w.lower.toInt
  let h : Int := w.hysteresis.toNat
  match w.kind with
  | .above => some (verdictAbove v upper h)
  | .below => some (if v < lower then .fire else if lower + h ≤ v then .clear else .neutral)
  | .outside =>
    some (if upper < v ∨ v < lower then .fire else if lower + h ≤ v ∧ v ≤ upper - h then .clear else .neutral)
  | .step => p.map fun p => verdictAbove (v - p).natAbs upper h

/-! ## The persistence state machine -/

/-- Whether a transition crosses between the clear side and the alarm side, and so makes an event and a contribution report (R124,
R127). -/
inductive Crossing where
  /-- no crossing to CLEAR or from the clear side -/
  | stays
  /-- from the clear side into ASSERTED: WATCH_ASSERT and a begin report -/
  | asserts
  /-- from the alarm side into CLEAR: WATCH_CLEAR and an end report -/
  | clears
deriving DecidableEq, Repr

/-- A watch contributes to its line while it is on the alarm side (R104, R127). -/
def WatchState.onAlarmSide : WatchState → Bool
  | .asserted | .pendingClear | .held => true
  | .disarmed | .clear | .pendingAssert => false

/-- Move to a state with the run counter 0. -/
def Watch.settle (w : Watch) (st : WatchState) : Watch := { w with state := st, runCounter := 0 }

/-- Entry into ASSERTED from the clear side (R107, R115). -/
def Watch.assertNow (w : Watch) : Watch × Crossing :=
  ({ w.settle .asserted with acknowledged := false, assertCount := sat16 w.assertCount 1 }, .asserts)

/-- The end of a clear run: HELD for a latched watch that is not acknowledged, CLEAR otherwise (R109). -/
def Watch.completeClearRun (w : Watch) : Watch × Crossing :=
  if w.latch ∧ w.acknowledged = false then (w.settle .held, .stays) else (w.settle .clear, .clears)

/-- A fire verdict on the clear side in normal mode (R106, R107). -/
def Watch.countFire (w : Watch) : Watch × Crossing :=
  if w.runCounter + 1 = w.na then w.assertNow
  else ({ w with state := .pendingAssert, runCounter := w.runCounter + 1 }, .stays)

/-- A clear verdict in ASSERTED or PENDING_CLEAR in normal mode (R108, R109). -/
def Watch.countClear (w : Watch) : Watch × Crossing :=
  if w.runCounter + 1 = w.nc then w.completeClearRun
  else ({ w with state := .pendingClear, runCounter := w.runCounter + 1 }, .stays)

/-- A verdict in normal mode (R106, R108). -/
def Watch.normalVerdict (w : Watch) : Verdict → Watch × Crossing
  | .fire =>
    match w.state with
    | .clear | .pendingAssert => w.countFire
    | .asserted | .pendingClear => (w.settle .asserted, .stays)
    | .held => ({ w with state := .asserted }, .stays)
    | .disarmed => (w, .stays)
  | .clear =>
    match w.state with
    | .clear | .pendingAssert => (w.settle .clear, .stays)
    | .asserted | .pendingClear => w.countClear
    | .held | .disarmed => (w, .stays)
  | .neutral =>
    match w.state with
    | .clear | .pendingAssert => (w.settle .clear, .stays)
    | .asserted | .pendingClear => (w.settle .asserted, .stays)
    | .held | .disarmed => (w, .stays)

/-- A run break (R112). -/
def Watch.breakRun (w : Watch) : Watch :=
  match w.state with
  | .pendingAssert => w.settle .clear
  | .pendingClear => w.settle .asserted
  | .clear | .asserted | .held => { w with runCounter := 0 }
  | .disarmed => { w with runCounter := 0 }

/-- A verdict in substitute mode (R115, R116). -/
def Watch.substituteVerdict (w : Watch) : Verdict → Watch × Crossing
  | .fire =>
    match w.state with
    | .clear | .pendingAssert => w.assertNow
    | .pendingClear => (w.settle .asserted, .stays)
    | .asserted | .held | .disarmed => (w, .stays)
  | .clear =>
    match w.state with
    | .pendingAssert => (w.settle .clear, .stays)
    | .asserted | .pendingClear => w.completeClearRun
    | .clear | .held | .disarmed => (w, .stays)
  | .neutral => (w.breakRun, .stays)

/-! ## Evaluation -/

/-- An evaluation request (R101). -/
structure EvalRequest where
  substitute : Bool
  stream     : Fin 64
  value      : Word
  sequence   : Seq
  time       : Time
  /-- the stream's previous evaluated value; not used in substitute mode -/
  previous   : Option Word
deriving DecidableEq, Repr

/-- The value a STEP watch measures from: none on a substitute (R82). -/
def EvalRequest.reference (r : EvalRequest) : Option Int := if r.substitute then none else r.previous.map BitVec.toInt

/-- The event of a transition of watch `id` (R125). -/
def Watch.event (w : Watch) (id : Fin 128) (kind : EventKind) (value : Word) (sequence : Seq) (time : Time) (fallback : Bool) :
    Event where
  source := .watch id
  kind := kind
  target := w.target
  level := w.level
  hold := w.hold
  stream := w.stream
  value := value
  sequence := sequence
  time := time
  fallback := fallback

/-- Hand a watch's event over, unless its level is 0 (R124). -/
def handWatchEvent (w : Watch) (id : Fin 128) (kind : EventKind) (value : Word) (sequence : Seq) (time : Time) (fallback : Bool)
    (s : State) : State :=
  if 0 < w.level then handEvent (w.event id kind value sequence time fallback) s else s

/-- Watch `id` becomes `w` by a transition: it is stored, its event is handed over, and its contribution change is reported (R102, R124,
R127). -/
def moveWatch (id : Fin 128) (w : Watch) (c : Crossing) (value : Word) (sequence : Seq) (time : Time) (fallback : Bool) (s : State) :
    State :=
  let t := s.setWatch id (some w)
  match c with
  | .stays => t
  | .asserts => beginContribution w.alarmLine (handWatchEvent w id .watchAssert value sequence time fallback t)
  | .clears => endContribution w.alarmLine (handWatchEvent w id .watchClear value sequence time fallback t)

/-- What a judgement makes of a watch: the last evaluated value is set in every case, and a verdict is applied by the request's mode
(R103). -/
def Watch.judged (w : Watch) (r : EvalRequest) : Watch × Crossing :=
  let w' := { w with lastEvaluated := some r.value }
  match w.verdict r.value.toInt r.reference with
  | none => (w', .stays)
  | some v => if r.substitute then w'.substituteVerdict v else w'.normalVerdict v

/-- One watch of the list judges the value; a watch in DISARMED is skipped (R102). -/
def judge (r : EvalRequest) (id : Fin 128) (s : State) : State :=
  match s.watches[id] with
  | none => s
  | some w =>
    if w.state = .disarmed then s
    else moveWatch id (w.judged r).1 (w.judged r).2 r.value r.sequence r.time r.substitute s

/-- The screening unit serves an evaluation request: the stream's watch list in ascending id order (R102). -/
def evaluate (r : EvalRequest) (s : State) : State := s.streams[r.stream].watchList.foldl (fun t id => judge r id t) s

/-- A run break of one watch (R112). -/
def breakWatch (id : Fin 128) (s : State) : State :=
  match s.watches[id] with
  | none => s
  | some w => s.setWatch id (some w.breakRun)

/-- A run break of every watch in a stream's list (R113). -/
def breakStream (i : Fin 64) (s : State) : State := s.streams[i].watchList.foldl (fun t id => breakWatch id t) s

end Sys2Proof.Machine
end

