-- ==== Sys2Proof/Machine/Intake.lean ====
section
/-!
DEFINITION. The sample intake (chapter 3): routing and the sequence check (R56, R57), what becomes of an accepted sample (R59 to R61),
silence deadlines and expiries (R63 to R66), and their rebasing (R69). Its host commands stand in StreamCommands.lean.
-/

namespace Sys2Proof.Machine

/-- A stream is bound in every state other than UNBOUND (R51). -/
def Stream.isBound (x : Stream) : Bool := x.state != .unbound

/-- The stream is BOUND or LIVE: its samples are evaluated and its silence timer runs (R52). -/
def Stream.inService (x : Stream) : Bool := x.state == .bound || x.state == .live

/-- The sequence an event of the stream carries: its baseline, 0 when absent (R65, R122). -/
def Stream.baselineOrZero (x : Stream) : Seq := x.baseline.getD 0

/-! ## Silence deadlines -/

/-- The deadline of a timeout set at time `t`: (t + timeout × 1000) mod 2^48 (R63). -/
def deadlineAt (t : Time) (timeout : BitVec 16) : Time := t + BitVec.ofNat 48 (timeout.toNat * 1000)

/-- The deadline is set when the timeout is nonzero (R63); a stream with timeout 0 keeps what it has, none. -/
def Stream.setDeadline (t : Time) (x : Stream) : Stream :=
  if x.timeout = 0 then x else { x with deadline := some (deadlineAt t x.timeout) }

/-- The rebasing of one stream at an entry into RUN (R69). -/
def Stream.rebase (t : Time) (x : Stream) : Stream := if x.inService then x.setDeadline t else x

/-- At an entry into RUN from STOPPED, or at the end of STOPPING with START held, every BOUND or LIVE stream with a timeout gets a
deadline that counts from that entry (R69). -/
def rebaseDeadlines (s : State) : State :=
  { s with streams := Vector.ofFn fun i => s.streams[i].rebase s.control.timeBase }

/-! ## The sequence check (R57) -/

/-- The verdict of the sequence check. -/
inductive SeqVerdict where
  | inOrder
  /-- accepted, with `missing` sequence numbers skipped -/
  | gap (missing : Nat)
  /-- a duplicate, or behind the baseline -/
  | stale
deriving DecidableEq, Repr

/-- The sequence check of R57. -/
def sequenceCheck (baseline : Option Seq) (sequence : Seq) : SeqVerdict :=
  match baseline with
  | none => .inOrder
  | some b =>
    let d := (sequence - b).toNat
    if d = 0 ∨ 32768 ≤ d then .stale else if d = 1 then .inOrder else .gap (d - 1)

/-! ## Accepted samples -/

/-- A good sample accepted in BOUND or LIVE (R59): the deadline, the state, the evaluation, and then the last and the previous
evaluated value. -/
def goodSample (i : Fin 64) (r : SampleRecord) (s : State) : State :=
  let x := { s.streams[i].setDeadline s.control.timeBase with state := .live }
  let t := evaluate
    { substitute := false, stream := i, value := r.value, sequence := r.sequence, time := s.control.timeBase, previous := x.previous }
    (s.setStream i x)
  t.setStream i { t.streams[i] with lastValue := r.value, previous := some r.value }

/-- A BAD sample accepted in BOUND or LIVE (R60): the deadline, the state, the bad count, a run break, and no previous evaluated
value. -/
def badSample (i : Fin 64) (s : State) : State :=
  let x := { s.streams[i].setDeadline s.control.timeBase with state := .live, bad := sat16 s.streams[i].bad 1 }
  let t := breakStream i (s.setStream i x)
  t.setStream i { t.streams[i] with previous := none }

/-- A sample accepted in SILENT (R61): a good one is held, a BAD one is counted. -/
def silentSample (i : Fin 64) (r : SampleRecord) (s : State) : State :=
  let x := s.streams[i]
  if r.bad then s.setStream i { x with bad := sat16 x.bad 1 }
  else s.setStream i { x with lastValue := r.value, heldCount := sat16 x.heldCount 1, held := true }

/-- A sample that the sequence check accepted, with the baseline already moved: what becomes of it by the stream's state (R59 to R61).
After a gap, the runs of a stream in service are broken before a good sample is handled (R58); a BAD sample's own break serves for
both causes (R60). -/
def acceptSample (i : Fin 64) (afterGap : Bool) (r : SampleRecord) (s : State) : State :=
  if s.streams[i].inService then
    if r.bad then badSample i s
    else goodSample i r (if afterGap then breakStream i s else s)
  else silentSample i r s

/-- A record routed to stream `i` (R57): the sequence check, and the sample if it is accepted. -/
def routedSample (i : Fin 64) (r : SampleRecord) (s : State) : State :=
  let x := s.streams[i]
  match sequenceCheck x.baseline r.sequence with
  | .stale => s.setStream i { x with stale := sat16 x.stale 1 }
  | .inOrder => acceptSample i false r (s.setStream i { x with baseline := some r.sequence })
  | .gap k =>
    acceptSample i true r (s.setStream i { x with baseline := some r.sequence, missing := sat16 x.missing k })

/-! ## Routing (R56) -/

/-- The stream a record of sample ring `n` routes to (R56). -/
def routeOf (n : Fin 8) (r : SampleRecord) (s : State) : Option (Fin 64) :=
  match fieldBelow 64 r.stream with
  | some i => if s.streams[i].isBound ∧ s.streams[i].sampleRing = n then some i else none
  | none => none

/-- The unrouted count of sample ring `n` increases by 1 (R31). -/
def countUnrouted (n : Fin 8) (s : State) : State :=
  s.setSampleRing n { s.rings.sample[n] with unrouted := sat16 s.rings.sample[n].unrouted 1 }

/-- One record of a fetch from sample ring `n`, taken whole (R55). -/
def processRecord (n : Fin 8) (r : SampleRecord) (s : State) : State :=
  match routeOf n r s with
  | some i => routedSample i r s
  | none => countUnrouted n s

/-- The records of a fetch in ring order (R55). -/
def processRecords (n : Fin 8) (records : List SampleRecord) (s : State) : State :=
  records.foldl (fun t r => processRecord n r t) s

/-! ## Silence (R64 to R66) -/

/-- The silence of stream `i` expires now: the engine is RUN, the stream is BOUND or LIVE, and the time base has reached its deadline
(R64). -/
def expiryDue (i : Fin 64) (s : State) : Bool :=
  s.control.engine == .run && s.streams[i].inService && s.streams[i].deadline == some s.control.timeBase

/-- The STREAM_SILENT event of stream `i`, with the contents of R65. -/
def silentEvent (i : Fin 64) (x : Stream) (t : Time) : Event where
  source := .stream i
  kind := .streamSilent
  target := x.eventRing
  level := x.level
  hold := false
  stream := i
  value := x.lastValue
  sequence := x.baselineOrZero
  time := t
  fallback := false

/-- The substitute hand-off (R66). -/
def substituteHandOff (i : Fin 64) (s : State) : State :=
  match s.streams[i].fallback with
  | some v =>
    evaluate
      { substitute := true
        stream := i
        value := v
        sequence := s.streams[i].baselineOrZero
        time := s.control.timeBase
        previous := none } s
  | none => s

/-- A silence expiry (R65): SILENT, the STREAM_SILENT event unless the level is 0, and the substitute. -/
def expire (i : Fin 64) (s : State) : State :=
  let x := s.streams[i]
  let t := s.setStream i { x with state := .silent, deadline := none, held := false }
  substituteHandOff i (if 0 < x.level then handEvent (silentEvent i x s.control.timeBase) t else t)

/-- The expiry of stream `i` where it is due, and nothing where it is not (R64). -/
def expireIfDue (i : Fin 64) (s : State) : State := if expiryDue i s then expire i s else s

end Sys2Proof.Machine
end

