-- ==== Sys2Proof/Machine/Engine.lean ====
section
/-!
DEFINITION. Entries into RUN and the end of STOPPING (R184, R187), and the part of the command engine every host command shares: taking
a command (R36), its owner's answer (R38 to R40), and the reply (R42).
-/

namespace Sys2Proof.Machine

/-! ## Engine states -/

/-- The entry into RUN from STOPPED, or at the end of STOPPING with START held: deadlines are rebased (R69) and every block starts what
its conditions allow (R184). -/
def enterRun (s : State) : State := checkWriters (startSampleFetches (startCommandFetch (rebaseDeadlines (s.setEngine .run))))

/-- The entry into RUN at the end of a load (R183, R184): no stream is bound and no event ring open, so no deadline is rebased and no
writer checks. -/
def enterRunFromLoading (s : State) : State := startSampleFetches (startCommandFetch (s.setEngine .run))

/-- The end condition of STOPPING (R187): no access in flight on any requester, no shadow write owed, the command engine WAITING. -/
def drained (s : State) : Bool :=
  (List.finRange 15).all (fun r => !s.busy r) && !s.rings.shadowOwed && s.cmd.phase == .waiting

/-- The control unit's check during STOPPING (R187): STOPPED, or RUN with the held START cleared. -/
def checkStoppingEnd (s : State) : State :=
  if s.control.engine = .stopping ∧ drained s = true then
    if s.control.heldStart then enterRun (s.mapControl fun c => { c with heldStart := false }) else s.setEngine .stopped
  else s

/-! ## Host commands -/

/-- What the owner block answers to a command (R38, R40): a status and four result words, or that the command waits for the access in
flight on the ring it names (R39). -/
inductive Answer where
  | done (status : Status) (words : Words) (s : State)
  | waits

/-- A refusal changes no state, and its result words are 0 (R40). -/
def refuse (status : Status) (s : State) : Answer := .done status {} s

/-- The command engine builds the reply and hands its write over, entering REPLYING (R42). -/
def sendReply (rec : CommandRecord) (status : Status) (words : Words) (s : State) : State :=
  let reply : ReplyRecord := { lap := s.rings.reply.lap, status := status, tag := rec.tag, code := rec.code, words := words }
  handOver replyRequester (.replyWrite reply) (s.rings.reply.slotAddress 32 s.rings.reply.producer)
    (s.setCmd { phase := .replying, held := some rec, reply := some reply })

/-- What follows the owner's answer: the reply, or EXECUTING until the access that is waited for completes (R39, R42). -/
def answerCommand (rec : CommandRecord) (a : Answer) (s : State) : State :=
  match a with
  | .done status words t => sendReply rec status words t
  | .waits => s

/-- The command engine holds the command: the consumer index advances, a shadow write becomes owed, and the state is EXECUTING (R36). -/
def holdCommand (rec : CommandRecord) (s : State) : State :=
  ((s.setCommandRing { s.rings.command with consumer := s.rings.command.advance s.rings.command.consumer 1 }).setShadowOwed
    true).setCmd { phase := .executing, held := some rec, reply := none }

/-- A command fetch completed with the record of a command, which is taken, executed by its owner and answered in this one event (R36,
R48). The owed shadow write is issued at the end of the event (R15; log 11). -/
def takeCommand (rec : CommandRecord) (owner : State → Answer) (s : State) : State :=
  let t := holdCommand rec s
  checkStoppingEnd (issueShadowWrite (answerCommand rec (owner t) t))

/-- The payload of a command fetch. -/
def isCommandFetch : Payload → Bool
  | .commandFetch => true
  | _ => false

/-- The row of a host command: the command fetch in flight completes with that command (log 4). -/
def onCommandFetch (rec : CommandRecord) (owner : State → Answer) (s : State) : Host.Outcome State Fault Refusal :=
  onArrival commandRequester isCommandFetch s fun _ t => takeCommand rec owner t

end Sys2Proof.Machine
end

