-- ==== Sys2Proof/Machine/AlarmCommands.lean ====
section
/-!
DEFINITION. The two alarm commands (R166, R167).
-/

namespace Sys2Proof.Machine

/-- A line set to a mode (R166): a change to LATCH leaves the asserted state, a change to FOLLOW makes it follow the count. -/
def AlarmLine.setMode (mode : AlarmMode) (l : AlarmLine) : AlarmLine :=
  { l with
    mode := mode
    asserted := match l.mode, mode with
      | .latch, .follow => decide (0 < l.count)
      | _, _ => l.asserted }

/-- CONFIGURE_ALARM at the alarm unit (R166). -/
def configureAlarm (index : BitVec 16) (mode : Byte) (s : State) : Answer :=
  match fieldBelow 4 index, alarmMode mode with
  | some a, some m =>
    let l := s.alarms[a].setMode m
    .done .ok { w0 := s.alarms[a].mode.code.setWidth 32, w1 := flagWord l.asserted, w2 := numWord l.count } (s.setAlarm a l)
  | _, _ => refuse .badArgument s

/-- RELEASE_ALARM at the alarm unit (R167). -/
def releaseAlarm (index : BitVec 16) (s : State) : Answer :=
  match fieldBelow 4 index with
  | none => refuse .badArgument s
  | some a =>
    if s.alarms[a].mode ≠ .latch then refuse .wrongState s
    else if s.alarms[a].count ≠ 0 then refuse .stillActive s
    else .done .ok { w0 := flagWord s.alarms[a].asserted } (s.setAlarm a { s.alarms[a] with asserted := false })

/-- CONFIGURE_ALARM (R166). -/
def execConfigureAlarm (h : CmdHeader) (mode : Byte) (s : State) : Host.Outcome State Fault Refusal :=
  onCommandFetch (recordOf h (.configureAlarm mode)) (configureAlarm h.index mode) s

/-- RELEASE_ALARM (R167). -/
def execReleaseAlarm (h : CmdHeader) (s : State) : Host.Outcome State Fault Refusal :=
  onCommandFetch (recordOf h .releaseAlarm) (releaseAlarm h.index) s

end Sys2Proof.Machine
end

