-- ==== Sys2Proof/Machine/DeliveryCommands.lean ====
section
/-!
DEFINITION. The two floor commands of the delivery unit (R152, R154).
-/

namespace Sys2Proof.Machine

/-- RELEASE at the delivery unit (R152): the most recent level leaves the stack, and the ring's writer checks its conditions. -/
def release (index : BitVec 16) (s : State) : Answer :=
  match fieldBelow 4 index with
  | none => refuse .badArgument s
  | some n =>
    if s.rings.event[n].state = .closed then refuse .wrongState s
    else
      match s.delivery[n].floorStack.getLast? with
      | none => refuse .wrongState s
      | some top =>
        let d := { s.delivery[n] with floorStack := s.delivery[n].floorStack.dropLast }
        .done .ok { w0 := levelWord top, w1 := levelWord d.currentFloor, w2 := numWord d.floorStack.length }
          (checkWriter n (s.setDelivery n d))

/-- SET_FLOOR at the delivery unit (R154): the base floor while the stack is empty and no hold write is in flight, and the ring's writer
checks its conditions. -/
def setFloor (index : BitVec 16) (level : Byte) (s : State) : Answer :=
  match fieldBelow 4 index, fieldBelow 8 level with
  | some n, some l =>
    if s.rings.event[n].state = .closed then refuse .wrongState s
    else if s.delivery[n].floorStack ≠ [] ∨ holdWriteInFlight n s = true then refuse .wrongState s
    else
      .done .ok { w0 := levelWord s.delivery[n].baseFloor }
        (checkWriter n (s.setDelivery n { s.delivery[n] with baseFloor := l }))
  | _, _ => refuse .badArgument s

/-- RELEASE (R152). -/
def execRelease (h : CmdHeader) (s : State) : Host.Outcome State Fault Refusal :=
  onCommandFetch (recordOf h .release) (release h.index) s

/-- SET_FLOOR (R154). -/
def execSetFloor (h : CmdHeader) (level : Byte) (s : State) : Host.Outcome State Fault Refusal :=
  onCommandFetch (recordOf h (.setFloor level)) (setFloor h.index level) s

end Sys2Proof.Machine
end

