-- ==== Sys2Proof/Machine/RingCommands.lean ====
section
/-!
DEFINITION. The five ring commands (R25 to R30), each with its checks in the spec's order, and the second half of the four that can
wait for an access in flight (R39).
-/

namespace Sys2Proof.Machine

/-! ## User checks (R75, R98) -/

/-- Some stream is bound to sample ring `n` (R75). -/
def sampleRingUsed (n : Fin 8) (s : State) : Bool :=
  (List.finRange 64).any fun i => s.streams[i].isBound && s.streams[i].sampleRing == n

/-- Some bound stream names event ring `n`, whatever its level (R75). -/
def eventRingNamed (n : Fin 4) (s : State) : Bool :=
  (List.finRange 64).any fun i => s.streams[i].isBound && s.streams[i].eventRing == n

/-- An entry of the watch table targets event ring `n`. -/
def watchTargets (n : Fin 4) : Option Watch → Bool
  | some w => w.target == n
  | none => false

/-- Some watch targets event ring `n`, whatever its state (R98). -/
def eventRingTargeted (n : Fin 4) (s : State) : Bool := (List.finRange 128).any fun w => watchTargets n s.watches[w]

/-- Event ring `n` has a user (R29). -/
def eventRingUsed (n : Fin 4) (s : State) : Bool := eventRingTargeted n s || eventRingNamed n s

/-! ## OPEN_SAMPLE_RING -/

/-- The descriptor of a sample ring just opened (R25). -/
def SampleRing.openedWith (base : Addr) (slots : Nat) : SampleRing :=
  { state := .opened, base := base, slots := slots, producer := 0, consumer := 0, cause := .noCause, unrouted := 0 }

/-- The acceptance of OPEN_SAMPLE_RING (R25): the ring starts anew and a shadow write becomes owed. -/
def finishOpenSampleRing (n : Fin 8) (base : Addr) (slots : Nat) (s : State) : Answer :=
  .done .ok {} ((s.setSampleRing n (SampleRing.openedWith base slots)).setShadowOwed true)

/-- OPEN_SAMPLE_RING at the ring manager (R25). -/
def openSampleRing (index : BitVec 16) (base : Addr) (slots : BitVec 16) (s : State) : Answer :=
  match fieldBelow 8 index with
  | none => refuse .badArgument s
  | some n =>
    if s.rings.sample[n].state = .opened then refuse .wrongState s
    else if validGeometry 16 4096 base slots.toNat = false then refuse .badArgument s
    else if s.rings.sample[n].state = .faulted ∧ s.busy (sampleRequester n) = true then .waits
    else finishOpenSampleRing n base slots.toNat s

/-! ## CLOSE_SAMPLE_RING -/

/-- The execution of CLOSE_SAMPLE_RING with no fetch in flight (R26): the indices and the unrouted count stay. -/
def finishCloseSampleRing (n : Fin 8) (s : State) : Answer :=
  let r := s.rings.sample[n]
  .done .ok { w0 := numWord r.count, w1 := numWord r.unrouted } (s.setSampleRing n { r with state := .closed, cause := .noCause })

/-- CLOSE_SAMPLE_RING at the ring manager (R26, R27). -/
def closeSampleRing (index : BitVec 16) (s : State) : Answer :=
  match fieldBelow 8 index with
  | none => refuse .badArgument s
  | some n =>
    if s.rings.sample[n].state = .closed then refuse .wrongState s
    else if sampleRingUsed n s then refuse .inUse s
    else if s.busy (sampleRequester n) then .waits
    else finishCloseSampleRing n s

/-! ## OPEN_EVENT_RING -/

/-- The descriptor of an event ring just opened (R28). -/
def EventRing.openedWith (base : Addr) (slots : Nat) (notify : Level) : EventRing :=
  { state := .opened
    base := base
    slots := slots
    producer := 0
    consumer := 0
    cause := .noCause
    lap := true
    attention := false
    notify := notify }

/-- The delivery state of a ring opened from CLOSED (R28, R157). -/
def Delivery.openedWith (floor : Level) : Delivery := { baseFloor := floor, floorStack := [], lost := 0, owed := false }

/-- The acceptance of OPEN_EVENT_RING (R28): from CLOSED the delivery state starts fresh (R157), from FAULTED it is kept (R156); the
ring's writer checks its conditions (R142). -/
def finishOpenEventRing (n : Fin 4) (base : Addr) (slots : Nat) (notify floor : Level) (s : State) : Answer :=
  let t := s.setEventRing n (EventRing.openedWith base slots notify)
  .done .ok {} (checkWriter n (if s.rings.event[n].state = .closed then t.setDelivery n (Delivery.openedWith floor) else t))

/-- OPEN_EVENT_RING at the ring manager (R28). -/
def openEventRing (index : BitVec 16) (base : Addr) (slots : BitVec 16) (notify floor : Byte) (s : State) : Answer :=
  match fieldBelow 4 index with
  | none => refuse .badArgument s
  | some n =>
    if s.rings.event[n].state = .opened then refuse .wrongState s
    else
      match fieldBelow 8 notify, fieldBelow 8 floor with
      | some nl, some fl =>
        if validGeometry 8 1024 base slots.toNat = false then refuse .badArgument s
        else if s.rings.event[n].state = .faulted ∧ s.busy (eventRequester n) = true then .waits
        else finishOpenEventRing n base slots.toNat nl fl s
      | _, _ => refuse .badArgument s

/-! ## CLOSE_EVENT_RING -/

/-- The execution of CLOSE_EVENT_RING with no write in flight (R29, R157). -/
def finishCloseEventRing (n : Fin 4) (s : State) : Answer :=
  let r := s.rings.event[n]
  .done .ok { w0 := numWord r.count, w1 := numWord s.delivery[n].lost }
    ((s.setEventRing n { r with state := .closed, cause := .noCause, attention := false }).setDelivery n Delivery.atReset)

/-- CLOSE_EVENT_RING at the ring manager (R29). -/
def closeEventRing (index : BitVec 16) (s : State) : Answer :=
  match fieldBelow 4 index with
  | none => refuse .badArgument s
  | some n =>
    if s.rings.event[n].state = .closed then refuse .wrongState s
    else if eventRingUsed n s then refuse .inUse s
    else if s.busy (eventRequester n) then .waits
    else finishCloseEventRing n s

/-! ## QUERY_RING -/

/-- A word of two 16-bit counts, the first in bits 15 to 0 (R203). -/
def packCounts (low high : Nat) : Word := BitVec.ofNat 16 high ++ BitVec.ofNat 16 low

/-- A word of four bytes, the first in bits 7 to 0 (R203). -/
def packBytes (b0 b1 b2 b3 : Byte) : Word := b3 ++ b2 ++ b1 ++ b0

/-- Words 0, 1 and 3 of QUERY_RING for a command or reply ring (R30). -/
def Descriptor.queryWords (d : Descriptor) : Words :=
  { w0 := packBytes d.state.code 0 0 0, w1 := packCounts d.producer d.consumer, w3 := packCounts d.slots 0 }

/-- The words of QUERY_RING for a sample ring (R30). -/
def SampleRing.queryWords (r : SampleRing) : Words :=
  { w0 := packBytes r.state.code r.cause.code 0 0
    w1 := packCounts r.producer r.consumer
    w2 := packCounts r.unrouted 0
    w3 := packCounts r.slots 0 }

/-- The words of QUERY_RING for event ring `n` (R30, R139). -/
def eventQueryWords (n : Fin 4) (s : State) : Words :=
  { w0 := packBytes s.rings.event[n].state.code s.rings.event[n].cause.code 0 0
    w1 := packCounts s.rings.event[n].producer s.rings.event[n].consumer
    w2 := packBytes (BitVec.ofNat 8 s.delivery[n].currentFloor.val) (BitVec.ofNat 8 s.delivery[n].floorStack.length)
      (BitVec.ofNat 8 (pendingOrder n s.pool).length) (if s.delivery[n].owed then 1 else 0)
    w3 := packCounts s.delivery[n].lost 0 }

/-- The answer of QUERY_RING for sample ring `n`; with the clear flag the unrouted count is set to 0 after it was read (R30). -/
def querySampleRing (n : Fin 8) (flags : Byte) (s : State) : Answer :=
  .done .ok s.rings.sample[n].queryWords
    (if clearFlag flags then s.setSampleRing n { s.rings.sample[n] with unrouted := 0 } else s)

/-- A selector as the ring it names (01, the table at the head of the chapter). -/
inductive RingName where
  | command
  | reply
  | sample (n : Fin 8)
  | event (n : Fin 4)
deriving DecidableEq, Repr

/-- The ring of a selector; 14 and above name none (R7, R30). -/
def ringOfSelector (selector : Nat) : Option RingName :=
  if selector = 0 then some .command
  else if selector = 1 then some .reply
  else if h : 2 ≤ selector ∧ selector ≤ 9 then some (.sample ⟨selector - 2, by omega⟩)
  else if h : 10 ≤ selector ∧ selector ≤ 13 then some (.event ⟨selector - 10, by omega⟩)
  else none

/-- QUERY_RING at the ring manager (R30). -/
def queryRing (index : BitVec 16) (flags : Byte) (s : State) : Answer :=
  match ringOfSelector index.toNat with
  | none => refuse .badArgument s
  | some .command => .done .ok s.rings.command.queryWords s
  | some .reply => .done .ok s.rings.reply.queryWords s
  | some (.sample n) => querySampleRing n flags s
  | some (.event n) => .done .ok (eventQueryWords n s) s

/-! ## The second half of a command that waited (R39) -/

/-- CLOSE_SAMPLE_RING of ring `n` is waiting on the fetch in flight (R26). -/
def closeWaitsOn (n : Fin 8) (s : State) : Bool :=
  match s.cmd.phase, s.cmd.held with
  | .executing, some rec => rec.request == .closeSampleRing && fieldBelow 8 rec.index == some n
  | _, _ => false

/-- The fetch from sample ring `n` has ended: the command that waits for it, if there is one, executes and is answered (R25, R26,
R39). -/
def resumeSampleCommand (n : Fin 8) (s : State) : State :=
  match s.cmd.phase, s.cmd.held with
  | .executing, some rec =>
    if fieldBelow 8 rec.index = some n then
      match rec.request with
      | .openSampleRing base slots => answerCommand rec (finishOpenSampleRing n base slots.toNat s) s
      | .closeSampleRing => answerCommand rec (finishCloseSampleRing n s) s
      | _ => s
    else s
  | _, _ => s

/-- The write to event ring `n` has ended: the command that waits for it, if there is one, executes and is answered (R28, R29,
R39). -/
def resumeEventCommand (n : Fin 4) (s : State) : State :=
  match s.cmd.phase, s.cmd.held with
  | .executing, some rec =>
    if fieldBelow 4 rec.index = some n then
      match rec.request with
      | .openEventRing base slots notify floor =>
        match fieldBelow 8 notify, fieldBelow 8 floor with
        | some nl, some fl => answerCommand rec (finishOpenEventRing n base slots.toNat nl fl s) s
        | _, _ => s
      | .closeEventRing => answerCommand rec (finishCloseEventRing n s) s
      | _ => s
    else s
  | _, _ => s

/-! ## The rows -/

/-- OPEN_SAMPLE_RING (R25). -/
def execOpenSampleRing (h : CmdHeader) (base : Addr) (slots : BitVec 16) (s : State) : Host.Outcome State Fault Refusal :=
  onCommandFetch (recordOf h (.openSampleRing base slots)) (openSampleRing h.index base slots) s

/-- CLOSE_SAMPLE_RING (R26). -/
def execCloseSampleRing (h : CmdHeader) (s : State) : Host.Outcome State Fault Refusal :=
  onCommandFetch (recordOf h .closeSampleRing) (closeSampleRing h.index) s

/-- OPEN_EVENT_RING (R28). -/
def execOpenEventRing (h : CmdHeader) (base : Addr) (slots : BitVec 16) (notify floor : Byte) (s : State) :
    Host.Outcome State Fault Refusal :=
  onCommandFetch (recordOf h (.openEventRing base slots notify floor)) (openEventRing h.index base slots notify floor) s

/-- CLOSE_EVENT_RING (R29). -/
def execCloseEventRing (h : CmdHeader) (s : State) : Host.Outcome State Fault Refusal :=
  onCommandFetch (recordOf h .closeEventRing) (closeEventRing h.index) s

/-- QUERY_RING (R30). -/
def execQueryRing (h : CmdHeader) (s : State) : Host.Outcome State Fault Refusal :=
  onCommandFetch (recordOf h .queryRing) (queryRing h.index h.flags) s

end Sys2Proof.Machine
end

