-- ==== Sys2Proof/Machine/StreamCommands.lean ====
section
/-!
DEFINITION. The four stream commands (R70 to R74), each with its checks in the spec's order.
-/

namespace Sys2Proof.Machine

/-! ## BIND_STREAM -/

/-- The fallback of a BIND_STREAM: present when the byte is 1, absent when it is 0, out of range otherwise (R70). -/
def bindFallback (p : BindParams) : Option (Option Word) :=
  if p.fallbackPresent = 0 then some none else if p.fallbackPresent = 1 then some (some p.fallback) else none

/-- The entry of a stream bound at time `t`: the values of R51 but for what R70 names. -/
def Stream.boundWith (ring : Fin 8) (eventRing : Fin 4) (level : Level) (timeout : BitVec 16) (fallback : Option Word) (t : Time) :
    Stream :=
  Stream.setDeadline t
    { Stream.atReset with
      state := .bound
      sampleRing := ring
      eventRing := eventRing
      level := level
      timeout := timeout
      fallback := fallback }

/-- BIND_STREAM at the sample intake (R70). -/
def bindStream (index : BitVec 16) (p : BindParams) (s : State) : Answer :=
  match fieldBelow 64 index with
  | none => refuse .badArgument s
  | some i =>
    if s.streams[i].isBound then refuse .wrongState s
    else
      match fieldBelow 8 p.sampleRing, fieldBelow 4 p.eventRing, fieldBelow 8 p.level, bindFallback p with
      | some n, some e, some l, some fb =>
        if s.rings.sample[n].state = .closed then refuse .wrongState s
        else if s.rings.event[e].state = .closed then refuse .wrongState s
        else .done .ok {} (s.setStream i (Stream.boundWith n e l p.timeout fb s.control.timeBase))
      | _, _, _, _ => refuse .badArgument s

/-! ## UNBIND_STREAM -/

/-- The entry of a stream just unbound: the binding fields, the previous evaluated value, the deadline and the held indication at their
values of R51; the baseline, the last value and the counters kept (R71). -/
def Stream.unbind (x : Stream) : Stream :=
  { x with
    state := .unbound
    sampleRing := 0
    eventRing := 0
    level := 0
    timeout := 0
    fallback := none
    previous := none
    held := false
    deadline := none }

/-- UNBIND_STREAM at the sample intake (R71). -/
def unbindStream (index : BitVec 16) (s : State) : Answer :=
  match fieldBelow 64 index with
  | none => refuse .badArgument s
  | some i =>
    if s.streams[i].isBound = false then refuse .notFound s
    else if s.streams[i].watchList ≠ [] then refuse .inUse s
    else
      .done .ok { w0 := flagWord (hasPending (.stream i) s) }
        ((withdraw (.stream i) s).setStream i s.streams[i].unbind)

/-! ## REVIVE_STREAM -/

/-- Step 4 of R72: the last value, which is the last sample held, is evaluated in normal mode with no previous evaluated value, and is
then the previous evaluated value. -/
def evaluateHeld (i : Fin 64) (s : State) : State :=
  let x := s.streams[i]
  let t := evaluate
    { substitute := false
      stream := i
      value := x.lastValue
      sequence := x.baselineOrZero
      time := s.control.timeBase
      previous := none } s
  t.setStream i { t.streams[i] with previous := some x.lastValue }

/-- The six steps of an accepted REVIVE_STREAM (R72). -/
def reviveNow (i : Fin 64) (s : State) : State :=
  let t := breakStream i s
  let wasHeld := t.streams[i].held
  let u := t.setStream i { t.streams[i] with previous := none, state := if wasHeld then .live else .bound }
  let v := if wasHeld then evaluateHeld i u else u
  v.setStream i (Stream.setDeadline s.control.timeBase { v.streams[i] with baseline := none, held := false })

/-- REVIVE_STREAM at the sample intake (R72). -/
def reviveStream (index : BitVec 16) (s : State) : Answer :=
  match fieldBelow 64 index with
  | none => refuse .badArgument s
  | some i =>
    if s.streams[i].isBound = false then refuse .notFound s
    else if s.streams[i].state ≠ .silent then refuse .wrongState s
    else .done .ok { w0 := flagWord s.streams[i].held } (reviveNow i s)

/-! ## QUERY_STREAM -/

/-- The words of QUERY_STREAM (R74, R203). -/
def Stream.queryWords (x : Stream) : Words :=
  { w0 := x.baselineOrZero ++ (BitVec.ofNat 8 (x.baseline.isSome.toNat + 2 * x.held.toNat) ++ x.state.code : BitVec 16)
    w1 := x.lastValue
    w2 := packCounts x.missing x.stale
    w3 := packCounts x.bad x.heldCount }

/-- The four counters set to 0 (R62, R74). -/
def Stream.clearCounters (x : Stream) : Stream := { x with missing := 0, stale := 0, bad := 0, heldCount := 0 }

/-- QUERY_STREAM at the sample intake (R74): accepted in every stream state. -/
def queryStream (index : BitVec 16) (flags : Byte) (s : State) : Answer :=
  match fieldBelow 64 index with
  | none => refuse .badArgument s
  | some i =>
    .done .ok s.streams[i].queryWords (if clearFlag flags then s.setStream i s.streams[i].clearCounters else s)

/-! ## The rows -/

/-- BIND_STREAM (R70). -/
def execBindStream (h : CmdHeader) (p : BindParams) (s : State) : Host.Outcome State Fault Refusal :=
  onCommandFetch (recordOf h (.bindStream p)) (bindStream h.index p) s

/-- UNBIND_STREAM (R71). -/
def execUnbindStream (h : CmdHeader) (s : State) : Host.Outcome State Fault Refusal :=
  onCommandFetch (recordOf h .unbindStream) (unbindStream h.index) s

/-- REVIVE_STREAM (R72). -/
def execReviveStream (h : CmdHeader) (s : State) : Host.Outcome State Fault Refusal :=
  onCommandFetch (recordOf h .reviveStream) (reviveStream h.index) s

/-- QUERY_STREAM (R74). -/
def execQueryStream (h : CmdHeader) (s : State) : Host.Outcome State Fault Refusal :=
  onCommandFetch (recordOf h .queryStream) (queryStream h.index h.flags) s

end Sys2Proof.Machine
end

