-- ==== Sys2Proof/Machine/WatchCommands.lean ====
section
/-!
DEFINITION. The watch commands (R84 to R97, R119 to R122), each with its checks in the spec's order.
-/

namespace Sys2Proof.Machine

/-! ## Validation (R84, R85) -/

/-- The changeable fields of a watch (R79). -/
structure Changeable where
  upper      : Word
  lower      : Word
  hysteresis : Word
  na         : Nat
  nc         : Nat
  level      : Level
deriving DecidableEq, Repr

/-- The consistency checks of R85, in exact integers, and the range check of a STEP watch's upper (R84). -/
def consistent (kind : WatchKind) (upper lower h : Int) : Bool :=
  match kind with
  | .above => true
  | .below => decide (lower ≤ upper)
  | .outside => decide (lower ≤ upper) && decide (2 * h ≤ upper - lower)
  | .step => decide (0 ≤ upper) && decide (h ≤ upper)

/-- A persistence count, 1 to 16 (R84). -/
def persistenceCount (b : Byte) : Option Nat := if 1 ≤ b.toNat ∧ b.toNat ≤ 16 then some b.toNat else none

/-- The changeable fields of a CREATE_WATCH or MODIFY_WATCH where they are in range and consistent for the kind (R84, R85); the
hysteresis is read as an unsigned number. -/
def changeableFields (kind : WatchKind) (p : WatchParams) : Option Changeable :=
  match fieldBelow 8 p.level, persistenceCount p.na, persistenceCount p.nc with
  | some level, some na, some nc =>
    if p.hysteresis.toNat ≤ 2147483647 ∧ consistent kind p.upper.toInt p.lower.toInt p.hysteresis.toNat = true then
      some { upper := p.upper, lower := p.lower, hysteresis := p.hysteresis, na := na, nc := nc, level := level }
    else none
  | _, _, _ => none

/-- A new watch of the parameters, DISARMED (R80, R88), where every field is in range and the thresholds are consistent (R84, R85). -/
def newWatch (p : WatchParams) : Option Watch :=
  match fieldBelow 64 p.stream, watchKind p.kind, fieldBelow 4 p.target, watchAlarmLine p.alarmLine with
  | some stream, some kind, some target, some line =>
    (changeableFields kind p).map fun c =>
      { stream := stream
        kind := kind
        target := target
        alarmLine := line
        hold := p.attributes.getLsbD 0
        latch := p.attributes.getLsbD 1
        upper := c.upper
        lower := c.lower
        hysteresis := c.hysteresis
        na := c.na
        nc := c.nc
        level := c.level
        state := .disarmed
        runCounter := 0
        acknowledged := false
        assertCount := 0
        lastEvaluated := none }
  | _, _, _, _ => none

/-! ## Watch lists (R53, R86) -/

/-- A watch id in its ordered place of a list (R86). -/
def insertId (w : Fin 128) : List (Fin 128) → List (Fin 128)
  | [] => [w]
  | x :: xs => if w < x then w :: x :: xs else x :: insertId w xs

/-- A list without a watch id (R86). -/
def removeId (w : Fin 128) (l : List (Fin 128)) : List (Fin 128) := l.filter fun x => x != w

/-! ## CREATE_WATCH -/

/-- CREATE_WATCH at the screening unit (R87, R88). -/
def createWatch (index : BitVec 16) (p : WatchParams) (s : State) : Answer :=
  match fieldBelow 128 index with
  | none => refuse .badArgument s
  | some id =>
    if s.watches[id].isSome then refuse .inUse s
    else
      match newWatch p with
      | none => refuse .badArgument s
      | some w =>
        let x := s.streams[w.stream]
        if x.isBound = false then refuse .wrongState s
        else if Config.watchListSize ≤ x.watchList.length then refuse .full s
        else if s.rings.event[w.target].state = .closed then refuse .wrongState s
        else
          let list := insertId id x.watchList
          .done .ok { w0 := numWord list.length } ((s.setWatch id (some w)).setStream w.stream { x with watchList := list })

/-! ## The commands that name a watch in use -/

/-- A command on the watch in use that the index names: BAD_ARGUMENT for an index out of range, NOT_FOUND for a free entry (R89, R91,
R93, R96, R97, R119). -/
def onWatch (index : BitVec 16) (s : State) (act : Fin 128 → Watch → Answer) : Answer :=
  match fieldBelow 128 index with
  | none => refuse .badArgument s
  | some id =>
    match s.watches[id] with
    | none => refuse .notFound s
    | some w => act id w

/-- The watch with its changeable fields replaced (R93). -/
def Watch.withFields (w : Watch) (c : Changeable) : Watch :=
  { w with
    upper := c.upper
    lower := c.lower
    hysteresis := c.hysteresis
    na := c.na
    nc := c.nc
    level := c.level }

/-- MODIFY_WATCH at the screening unit (R93, R94): the new fields, a run break, and the level of the pending entry. -/
def modifyWatch (index : BitVec 16) (p : WatchParams) (s : State) : Answer :=
  onWatch index s fun id w =>
    match changeableFields w.kind p with
    | none => refuse .badArgument s
    | some c =>
      .done .ok { w0 := flagWord (hasPending (.watch id) s) }
        (raiseLevel (.watch id) c.level (s.setWatch id (some (w.withFields c).breakRun)))

/-- DELETE_WATCH at the screening unit (R96). -/
def deleteWatch (index : BitVec 16) (s : State) : Answer :=
  onWatch index s fun id w =>
    if w.state ≠ .disarmed then refuse .wrongState s
    else
      let x := s.streams[w.stream]
      let list := removeId id x.watchList
      .done .ok { w0 := numWord list.length } ((s.setWatch id none).setStream w.stream { x with watchList := list })

/-- ARM_WATCH at the screening unit (R89). -/
def armWatch (index : BitVec 16) (s : State) : Answer :=
  onWatch index s fun id w =>
    if w.state ≠ .disarmed then refuse .wrongState s
    else .done .ok {} (s.setWatch id (some { w.settle .clear with acknowledged := false }))

/-- DISARM_WATCH at the screening unit (R91): the contribution ends, the pending entry is withdrawn, and the watch is DISARMED. -/
def disarmWatch (index : BitVec 16) (s : State) : Answer :=
  onWatch index s fun id w =>
    if w.state = .disarmed then refuse .wrongState s
    else
      let t := if w.state.onAlarmSide then endContribution w.alarmLine s else s
      .done .ok { w0 := flagWord (hasPending (.watch id) s) }
        ((withdraw (.watch id) t).setWatch id (some { w.settle .disarmed with acknowledged := false }))

/-- ACK_WATCH at the screening unit (R119 to R122): the acknowledged flag in ASSERTED and PENDING_CLEAR; in HELD the end of the
assertion, with a WATCH_CLEAR of the last evaluated value, the stream's baseline and the time of the command. -/
def ackWatch (index : BitVec 16) (s : State) : Answer :=
  onWatch index s fun id w =>
    match w.state with
    | .asserted | .pendingClear => .done .ok {} (s.setWatch id (some { w with acknowledged := true }))
    | .held =>
      .done .ok { w0 := 1 }
        (moveWatch id (w.settle .clear) .clears (w.lastEvaluated.getD Config.unevaluatedValue)
          s.streams[w.stream].baselineOrZero s.control.timeBase false s)
    | .disarmed | .clear | .pendingAssert => refuse .wrongState s

/-- Word 0 of QUERY_WATCH (R97, R203). -/
def Watch.queryWord0 (w : Watch) (pending : Bool) : Word :=
  let low : BitVec 16 :=
    BitVec.ofNat 1 0 ++ BitVec.ofBool w.lastEvaluated.isSome ++ BitVec.ofBool pending ++ BitVec.ofBool w.acknowledged
      ++ BitVec.ofNat 4 w.runCounter ++ w.state.code
  let high : BitVec 16 := BitVec.ofNat 13 0 ++ BitVec.ofNat 3 w.level.val
  high ++ low

/-- The alarm line byte of a watch, FFh for none (R97). -/
def alarmLineByte (line : Option (Fin 4)) : Byte :=
  match line with
  | some a => BitVec.ofNat 8 a.val
  | none => 0xFF

/-- The words of QUERY_WATCH (R97, R203). -/
def Watch.queryWords (w : Watch) (pending : Bool) : Words :=
  { w0 := w.queryWord0 pending
    w1 := w.lastEvaluated.getD 0
    w2 := packCounts w.assertCount 0
    w3 := packBytes (BitVec.ofNat 8 w.stream.val) w.kind.code (BitVec.ofNat 8 w.target.val) (alarmLineByte w.alarmLine) }

/-- QUERY_WATCH at the screening unit (R97): accepted in every watch state. -/
def queryWatch (index : BitVec 16) (s : State) : Answer :=
  onWatch index s fun id w => .done .ok (w.queryWords (hasPending (.watch id) s)) s

/-! ## The rows -/

/-- CREATE_WATCH (R87). -/
def execCreateWatch (h : CmdHeader) (p : WatchParams) (s : State) : Host.Outcome State Fault Refusal :=
  onCommandFetch (recordOf h (.createWatch p)) (createWatch h.index p) s

/-- MODIFY_WATCH (R93). -/
def execModifyWatch (h : CmdHeader) (p : WatchParams) (s : State) : Host.Outcome State Fault Refusal :=
  onCommandFetch (recordOf h (.modifyWatch p)) (modifyWatch h.index p) s

/-- DELETE_WATCH (R96). -/
def execDeleteWatch (h : CmdHeader) (s : State) : Host.Outcome State Fault Refusal :=
  onCommandFetch (recordOf h .deleteWatch) (deleteWatch h.index) s

/-- ARM_WATCH (R89). -/
def execArmWatch (h : CmdHeader) (s : State) : Host.Outcome State Fault Refusal :=
  onCommandFetch (recordOf h .armWatch) (armWatch h.index) s

/-- DISARM_WATCH (R91). -/
def execDisarmWatch (h : CmdHeader) (s : State) : Host.Outcome State Fault Refusal :=
  onCommandFetch (recordOf h .disarmWatch) (disarmWatch h.index) s

/-- ACK_WATCH (R119). -/
def execAckWatch (h : CmdHeader) (s : State) : Host.Outcome State Fault Refusal :=
  onCommandFetch (recordOf h .ackWatch) (ackWatch h.index) s

/-- QUERY_WATCH (R97). -/
def execQueryWatch (h : CmdHeader) (s : State) : Host.Outcome State Fault Refusal :=
  onCommandFetch (recordOf h .queryWatch) (queryWatch h.index) s

end Sys2Proof.Machine
end

