-- ==== Sys2Proof/Machine/CommandIntake.lean ====
section
/-!
DEFINITION. The command engine's own rows: NOP (R41), a code that names no command (R37), the completion of a command fetch with the
dispatch of its record (R36 to R38, R46), and the completion of a reply write (R43, R47).
-/

namespace Sys2Proof.Machine

/-- NOP is accepted in every case and changes no state (R41). -/
def nop (s : State) : Answer := .done .ok {} s

/-- A code that names no command is answered without dispatch (R37). -/
def unknownCommand (s : State) : Answer := .done .unknownCommand {} s

/-- The dispatch of a request to its owner block (R38). -/
def perform (index : BitVec 16) (flags : Byte) (q : Request) (s : State) : Answer :=
  match q with
  | .nop => nop s
  | .unknown _ => unknownCommand s
  | .openSampleRing base slots => openSampleRing index base slots s
  | .closeSampleRing => closeSampleRing index s
  | .openEventRing base slots notify floor => openEventRing index base slots notify floor s
  | .closeEventRing => closeEventRing index s
  | .queryRing => queryRing index flags s
  | .bindStream p => bindStream index p s
  | .unbindStream => unbindStream index s
  | .reviveStream => reviveStream index s
  | .queryStream => queryStream index flags s
  | .createWatch p => createWatch index p s
  | .modifyWatch p => modifyWatch index p s
  | .deleteWatch => deleteWatch index s
  | .armWatch => armWatch index s
  | .disarmWatch => disarmWatch index s
  | .ackWatch => ackWatch index s
  | .queryWatch => queryWatch index s
  | .release => release index s
  | .setFloor level => setFloor index level s
  | .configureAlarm mode => configureAlarm index mode s
  | .releaseAlarm => releaseAlarm index s

/-- The owner's answer to a command record (R37, R38). -/
def ownerOf (rec : CommandRecord) (s : State) : Answer := perform rec.index rec.flags rec.request s

/-- NOP (R41). -/
def execNop (h : CmdHeader) (s : State) : Host.Outcome State Fault Refusal := onCommandFetch (recordOf h .nop) nop s

/-- UNKNOWN_COMMAND (R37): the record is decoded by its code, so a code that does name a command is that command with parameter bytes
of 0 (log 14). -/
def execUnknownCommand (code : Byte) (h : CmdHeader) (s : State) : Host.Outcome State Fault Refusal :=
  onCommandFetch (recordOf h (.unknown code)) (ownerOf (recordOf h (.unknown code))) s

/-- The error of a command fetch (R46): the engine faults, nothing is taken, and the command engine is WAITING. -/
def commandFetchFailed (a : Access) (s : State) : State :=
  faultReport .commandReadError a.address (s.setCmd CommandEngine.atReset)

/-- COMMAND_FETCH_COMPLETION (R36, R46). -/
def execCommandFetchCompletion (result : Completion (Vector Byte 32)) (s : State) : Host.Outcome State Fault Refusal :=
  onArrival commandRequester isCommandFetch s fun a t =>
    match result with
    | .ok bytes => takeCommand (commandRecordOfBytes bytes) (ownerOf (commandRecordOfBytes bytes)) t
    | .accessError => commandFetchFailed a t

/-- The payload of a reply write. -/
def isReplyWrite : Payload → Bool
  | .replyWrite _ => true
  | _ => false

/-- The reply ring after a completed reply write: the producer index, the lap value and the attention flag (R43, R10, R11). -/
def ReplyRing.written (r : ReplyRing) : ReplyRing :=
  { r with producer := r.advance r.producer 1, lap := r.nextLap r.lap, attention := true }

/-- A reply write has completed (R43): the command engine is WAITING and checks the conditions of R34 at once. -/
def replyWritten (s : State) : State :=
  checkStoppingEnd (startCommandFetch ((s.setReplyRing s.rings.reply.written).setCmd CommandEngine.atReset))

/-- The error of a reply write (R47). -/
def replyWriteFailed (a : Access) (s : State) : State :=
  faultReport .replyWriteError a.address (s.setCmd CommandEngine.atReset)

/-- REPLY_WRITE_COMPLETION (R43, R47). -/
def execReplyWriteCompletion (result : Completion Unit) (s : State) : Host.Outcome State Fault Refusal :=
  onArrival replyRequester isReplyWrite s fun a t =>
    match result with
    | .ok _ => replyWritten t
    | .accessError => replyWriteFailed a t

end Sys2Proof.Machine
end

