-- ==== Sys2Proof/Machine/Completions.lean ====
section
/-!
DEFINITION. The host link's rows: the grant (R18), the completions of the setup read (R181 to R183), of shadow writes (R15, R16), sample
fetches (R22, R23, R55) and event record writes (R24, R147 to R150), and discarded completions (R20, R21).
-/

namespace Sys2Proof.Machine

/-! ## MEMORY_ACCESS_GRANT -/

/-- The access of requester `r` goes onto the host link (R18). -/
def grantTo (r : Requester) (s : State) : State :=
  match s.access r with
  | some a => (s.setAccess r (some { a with phase := .onLink })).mapMau fun m => { m with lastGranted := r }
  | none => s

/-- MEMORY_ACCESS_GRANT (R18): the next waiting requester in rotating order; none while the engine is in FAULT (R21), and nothing where
nothing waits. -/
def execMemoryAccessGrant (s : State) : Host.Outcome State Fault Refusal :=
  if s.control.engine = .fault then .next s
  else
    match nextGrant s.mau with
    | some r => .next (grantTo r s)
    | none => .next s

/-! ## SETUP_READ_COMPLETION -/

/-- The payload of the setup read. -/
def isSetupRead : Payload → Bool
  | .setupRead => true
  | _ => false

/-- A ring opened by the setup load (R183). -/
def Descriptor.openedWith (base : Addr) (slots : Nat) : Descriptor :=
  { state := .opened, base := base, slots := slots, producer := 0, consumer := 0 }

/-- The ring manager takes a valid setup block (R183). -/
def loadSetup (b : SetupBlock) (s : State) : State :=
  (s.mapRings fun r =>
    { r with command := Descriptor.openedWith b.commandBase b.commandSlots.toNat, shadowAddr := b.shadowAddr }).setReplyRing
    { Descriptor.openedWith b.replyBase b.replySlots.toNat with lap := true, attention := false }

/-- The end of a load with a valid block: RUN, or STOPPED with a held STOP, which is cleared (R183). -/
def endLoad (b : SetupBlock) (s : State) : State :=
  let t := loadSetup b s
  if s.control.heldStop then (t.mapControl fun c => { c with heldStop := false }).setEngine .stopped else enterRunFromLoading t

/-- SETUP_READ_COMPLETION (R181 to R183). -/
def execSetupReadCompletion (result : Completion (Vector Byte 28)) (s : State) : Host.Outcome State Fault Refusal :=
  onArrival commandRequester isSetupRead s fun a t =>
    match result with
    | .ok bytes =>
      if (setupBlock bytes.toList).valid then endLoad (setupBlock bytes.toList) t else faultReport .setupInvalid 0 t
    | .accessError => faultReport .setupReadError a.address t

/-! ## SHADOW_WRITE_COMPLETION -/

/-- The payload of a shadow write. -/
def isShadowWrite : Payload → Bool
  | .shadowWrite _ => true
  | _ => false

/-- SHADOW_WRITE_COMPLETION (R15, R16). -/
def execShadowWriteCompletion (result : Completion Unit) (s : State) : Host.Outcome State Fault Refusal :=
  onArrival shadowRequester isShadowWrite s fun a t =>
    match result with
    | .ok _ => checkStoppingEnd (issueShadowWrite t)
    | .accessError => faultReport .shadowWriteError a.address t

/-! ## SAMPLE_FETCH_COMPLETION -/

/-- The payload of a sample fetch that brings as many records. -/
def isSampleFetch (records : Option Nat) : Payload → Bool
  | .sampleFetch count =>
    match records with
    | some k => count == k
    | none => true
  | _ => false

/-- The number of records a completion brings, where it is a success. -/
def recordCount : Completion (List (Vector Byte 8)) → Option Nat
  | .ok records => some records.length
  | .accessError => none

/-- The end of the processing of `k` records: the consumer index advances and a shadow write becomes owed (R4, R14, R22). -/
def consumeSamples (n : Fin 8) (k : Nat) (s : State) : State :=
  let r := s.rings.sample[n]
  (s.setSampleRing n { r with consumer := r.advance r.consumer k }).setShadowOwed true

/-- The records of a completed fetch are processed (R55) where the ring is OPEN and no CLOSE_SAMPLE_RING waits on the fetch, and
discarded otherwise (R22, R26). -/
def takeSamples (n : Fin 8) (records : List (Vector Byte 8)) (s : State) : State :=
  if s.rings.sample[n].state = .opened ∧ closeWaitsOn n s = false then
    consumeSamples n records.length (processRecords n (records.map fun b => sampleRecord b.toList) s)
  else s

/-- A sample fetch has ended with an access error (R23). -/
def sampleFetchFailed (n : Fin 8) (s : State) : State := s.setSampleRing n (s.rings.sample[n].faultWith .accessError)

/-- What follows the end of a sample fetch: a command that waits for it resumes (R39), the fetch conditions are checked (R54), an owed
shadow write is issued (R15), and the end of STOPPING is checked (R187). -/
def afterSampleFetch (n : Fin 8) (s : State) : State :=
  checkStoppingEnd (issueShadowWrite (startSampleFetch n (resumeSampleCommand n s)))

/-- SAMPLE_FETCH_COMPLETION (R22, R23, R55). -/
def execSampleFetchCompletion (n : Fin 8) (result : Completion (List (Vector Byte 8))) (s : State) :
    Host.Outcome State Fault Refusal :=
  onArrival (sampleRequester n) (isSampleFetch (recordCount result)) s fun _ t =>
    match result with
    | .ok records => afterSampleFetch n (takeSamples n records t)
    | .accessError => afterSampleFetch n (sampleFetchFailed n t)

/-! ## EVENT_WRITE_COMPLETION and OVERRUN_WRITE_COMPLETION -/

/-- The payload of an entry record's write. -/
def isEntryWrite : Payload → Bool
  | .eventWrite (.entry _ _) => true
  | _ => false

/-- The payload of an OVERRUN record's write. -/
def isOverrunWrite : Payload → Bool
  | .eventWrite (.overrun _ _ _) => true
  | _ => false

/-- An event ring after a completed write of a record of a level: the producer index, the lap value, and the attention flag where the
level is at least the notify level (R24, R10, R11). -/
def EventRing.written (level : Level) (r : EventRing) : EventRing :=
  { r with
    producer := r.advance r.producer 1
    lap := r.nextLap r.lap
    attention := r.attention || decide (r.notify ≤ level) }

/-- The ring side of a completed write (R24). -/
def eventWritten (n : Fin 4) (level : Level) (s : State) : State := s.setEventRing n (s.rings.event[n].written level)

/-- The ring side of a failed write (R24). -/
def eventWriteFailed (n : Fin 4) (s : State) : State := s.setEventRing n (s.rings.event[n].faultWith .accessError)

/-- The record's level is pushed where its watch has hold (R147). -/
def Delivery.push (r : EventRecord) (d : Delivery) : Delivery :=
  if r.holds then { d with floorStack := d.floorStack ++ [r.level] } else d

/-- The OVERRUN record is in the ring: the carried count leaves the lost count, and the overrun stays owed for what is left (R148). -/
def Delivery.settleOverrun (carried : Nat) (d : Delivery) : Delivery :=
  { d with lost := d.lost - carried, owed := decide (0 < d.lost - carried) }

/-- What follows the end of an event record write: a command that waits for it resumes (R39), before the ring's writer checks its
conditions (R142; DEDUCED, log 10), and the end of STOPPING is checked (R187). A resumed command owes no shadow write. -/
def afterEventWrite (n : Fin 4) (s : State) : State := checkStoppingEnd (checkWriter n (resumeEventCommand n s))

/-- The record of an event write access. -/
def Payload.level : Payload → Level
  | .eventWrite r => r.level
  | _ => 0

/-- The delivery unit's part of a completed entry write (R147). -/
def entryDelivered (n : Fin 4) (p : Payload) (s : State) : State :=
  match p with
  | .eventWrite r => s.setDelivery n (s.delivery[n].push r)
  | _ => s

/-- The delivery unit's part of a completed OVERRUN write (R148). -/
def overrunDelivered (n : Fin 4) (p : Payload) (s : State) : State :=
  match p with
  | .eventWrite (.overrun _ carried _) => s.setDelivery n (s.delivery[n].settleOverrun carried)
  | _ => s

/-- The delivery unit's part of a failed entry write: the record is lost (R149). -/
def entryLost (n : Fin 4) (s : State) : State := s.setDelivery n s.delivery[n].countLoss

/-- EVENT_WRITE_COMPLETION (R147, R149). -/
def execEventWriteCompletion (n : Fin 4) (result : Completion Unit) (s : State) : Host.Outcome State Fault Refusal :=
  onArrival (eventRequester n) isEntryWrite s fun a t =>
    match result with
    | .ok _ => afterEventWrite n (entryDelivered n a.payload (eventWritten n a.payload.level t))
    | .accessError => afterEventWrite n (entryLost n (eventWriteFailed n t))

/-- OVERRUN_WRITE_COMPLETION (R148, R150): a failed one leaves the lost count and the owed mark. -/
def execOverrunWriteCompletion (n : Fin 4) (result : Completion Unit) (s : State) : Host.Outcome State Fault Refusal :=
  onArrival (eventRequester n) isOverrunWrite s fun a t =>
    match result with
    | .ok _ => afterEventWrite n (overrunDelivered n a.payload (eventWritten n a.payload.level t))
    | .accessError => afterEventWrite n (eventWriteFailed n t)

/-! ## COMPLETION_DISCARDED -/

/-- An access of an older epoch on the link is that of `r` with `epoch`. -/
def isStaleOf (r : Requester) (epoch : Nat) (x : Requester × Access) : Bool := x.1 == r && x.2.epoch == epoch

/-- COMPLETION_DISCARDED: the completion of an access of an older epoch reaches no block (R20); one that arrives in FAULT reaches none
either, and its access stays in flight for its requester until the reset (R21, R151). -/
def execCompletionDiscarded (r : Requester) (epoch : Nat) (s : State) : Host.Outcome State Fault Refusal :=
  if s.mau.stale.any (isStaleOf r epoch) then
    .next (s.mapMau fun m => { m with stale := m.stale.eraseP (isStaleOf r epoch) })
  else
    match s.access r with
    | some a =>
      if a.phase = .onLink ∧ a.epoch = epoch then
        if s.control.engine = .fault then .next (s.setAccess r (some { a with phase := .returned }))
        else .refused .notDiscarded
      else .refused .noSuchAccess
    | none => .refused .noSuchAccess

end Sys2Proof.Machine
end

