-- ==== Sys2Proof/Machine/Flags.lean ====
section
/-!
DEFINITION. What the register window shows (R173, R174, R207): each word is computed from the state of its owner at the event of the
read.
-/

namespace Sys2Proof.Machine

/-- Engine state codes (R207). -/
def EngineState.code : EngineState → Nat
  | .idle => 0
  | .loading => 1
  | .run => 2
  | .stopping => 3
  | .stopped => 4
  | .fault => 5

/-- Command engine state codes (R207). -/
def CommandPhase.code : CommandPhase → Nat
  | .waiting => 0
  | .fetching => 1
  | .executing => 2
  | .replying => 3

/-- Fault kind codes (R207). -/
def FaultKind.code : FaultKind → Nat
  | .noFault => 0
  | .setupReadError => 1
  | .setupInvalid => 2
  | .commandReadError => 3
  | .replyWriteError => 4
  | .shadowWriteError => 5
  | .commandPostInvalid => 6
  | .replyPostInvalid => 7

/-- A field of a word: `n` from bit `position` on. -/
def fieldAt (position n : Nat) : Word := numWord n <<< position

/-- A flag of a word, at bit `position`. -/
def bitAt (position : Nat) (b : Bool) : Word := fieldAt position b.toNat

/-- The bits of a list of flags, the first at bit `position`. -/
def bitsFrom (position : Nat) : List Bool → Word
  | [] => 0
  | b :: bs => bitAt position b ||| bitsFrom (position + 1) bs

/-- STATUS (R174, R207). -/
def statusWord (s : State) : Word :=
  fieldAt 0 s.control.engine.code ||| bitAt 3 s.control.heldStart ||| bitAt 4 s.control.heldStop
    ||| fieldAt 5 s.cmd.phase.code ||| bitAt 7 s.rings.reply.attention
    ||| bitsFrom 8 ((List.finRange 4).map fun n => s.rings.event[n].attention)
    ||| bitsFrom 12 ((List.finRange 8).map fun n => s.rings.sample[n].isFaulted)
    ||| bitsFrom 20 ((List.finRange 4).map fun n => s.rings.event[n].isFaulted)
    ||| bitAt 24 (attention s)

/-- IDENT (R173, R207). -/
def identWord : Word := (Config.revision.setWidth 32 <<< 16) ||| Config.partCode.setWidth 32

/-- The word a register of the window shows outside reset (R173, R207); an offset without a register shows 0. -/
def registerWord (s : State) (offset : Nat) : Word :=
  if offset = 0x00 then identWord
  else if offset = 0x04 then fieldAt 0 s.control.engine.code
  else if offset = 0x08 then statusWord s
  else if offset = 0x0C then s.control.setupAddr.extractLsb' 0 32
  else if offset = 0x10 then s.control.setupAddr.extractLsb' 32 32
  else if offset = 0x18 then fieldAt 0 s.control.faultKind.code ||| fieldAt 8 s.control.furtherFaults
  else if offset = 0x1C then s.control.faultAddr.extractLsb' 0 32
  else if offset = 0x20 then s.control.faultAddr.extractLsb' 32 32
  else if offset = 0x24 then s.control.timeBase.extractLsb' 0 32
  else if offset = 0x28 then s.control.timeCapture.setWidth 32
  else 0

/-- The bits of a word in the bytes that `lanes` asks for. -/
def laneMask (lanes : BitVec 4) : Word :=
  (if lanes.getLsbD 0 then 0x000000FF else 0) ||| (if lanes.getLsbD 1 then 0x0000FF00 else 0)
    ||| (if lanes.getLsbD 2 then 0x00FF0000 else 0) ||| (if lanes.getLsbD 3 then 0xFF000000 else 0)

/-- What a read of the window returns in the bytes asked for (R173); 0 while RST_N is asserted (R196). Of all reads only that of
TIME_LO has an effect (execTimeLoRead). -/
def registerRead (s : State) (offset : Nat) (lanes : BitVec 4) : Word :=
  if s.control.rstAsserted then 0 else registerWord s offset &&& laneMask lanes

end Sys2Proof.Machine
end

