-- ==== Sys2Proof/Machine/ControlUnit.lean ====
section
/-!
DEFINITION. The rows of the control unit (chapter 8): the CONTROL codes (R175), SETUP_LO and SETUP_HI (R179), the read of TIME_LO
(R194), ignored writes (R173), both resets (R196, R197), the release of RST_N, the tick of the time base (R193) and silence expiry
(R65).
-/

namespace Sys2Proof.Machine

/-- A write of the window takes effect outside reset; while RST_N is asserted it is ignored (R173, R196). -/
def busWrite (effect : State → State) (s : State) : State := if s.control.rstAsserted then s else effect s

/-! ## START and STOP (R175) -/

/-- The entry into LOADING: the 28-byte setup read is handed over on requester 1 (R180). -/
def startLoad (s : State) : State := handOver commandRequester .setupRead s.control.setupAddr (s.setEngine .loading)

/-- The START code (R175). -/
def startCode (s : State) : State :=
  match s.control.engine with
  | .idle => startLoad s
  | .stopping => s.mapControl fun c => { c with heldStart := true }
  | .stopped => enterRun s
  | .loading | .run | .fault => s

/-- The STOP code (R175); the entry into STOPPING is checked against the end condition at once (R186). -/
def stopCode (s : State) : State :=
  match s.control.engine with
  | .loading => s.mapControl fun c => { c with heldStop := true }
  | .run => checkStoppingEnd (s.setEngine .stopping)
  | .idle | .stopping | .stopped | .fault => s

/-! ## Resets -/

/-- What a soft reset keeps of the control unit: the setup address, the time base, the time capture and the pin (R197). -/
def Control.afterSoftReset (c : Control) : Control :=
  { Control.atReset with
    setupAddr := c.setupAddr
    timeBase := c.timeBase
    timeCapture := c.timeCapture
    rstAsserted := c.rstAsserted }

/-- A soft reset (R197); the pins follow (R170, R195). -/
def softReset (s : State) : State :=
  notePins s
    { State.reset with
      control := s.control.afterSoftReset
      mau := s.mau.afterReset
      rings := { RingManager.atReset with shadowAddr := s.rings.shadowAddr }
      alarms := Vector.ofFn fun a => s.alarms[a].afterSoftReset
      pinChanges := s.pinChanges
      readData := s.readData
      pending := s.pending }

/-- A hardware reset: RST_N is asserted (R196); the pins follow (R171, R195). -/
def hardReset (s : State) : State :=
  notePins s
    { State.reset with
      control := { Control.atReset with rstAsserted := true }
      mau := s.mau.afterReset
      pinChanges := s.pinChanges
      readData := s.readData
      pending := s.pending }

/-! ## The setup address (R179) -/

/-- A write of SETUP_LO takes effect in IDLE. -/
def writeSetupLo (value : Word) (s : State) : State :=
  if s.control.engine = .idle then
    s.mapControl fun c => { c with setupAddr := (c.setupAddr.extractLsb' 32 32 ++ value : BitVec 64) }
  else s

/-- A write of SETUP_HI takes effect in IDLE. -/
def writeSetupHi (value : Word) (s : State) : State :=
  if s.control.engine = .idle then
    s.mapControl fun c => { c with setupAddr := (value ++ c.setupAddr.extractLsb' 0 32 : BitVec 64) }
  else s

/-! ## Posts (R7 to R9) -/

/-- A producer post is valid when the index is below the slot count and the new count is at least the old one (R7). -/
def Descriptor.validProducerPost (d : Descriptor) (index : Nat) : Bool :=
  index < d.slots && d.count ≤ ringDiff d.slots index d.consumer

/-- A consumer post is valid when the index is below the slot count and it advances by no more than is outstanding (R8). -/
def Descriptor.validConsumerPost (d : Descriptor) (index : Nat) : Bool :=
  index < d.slots && ringDiff d.slots index d.consumer ≤ d.count

/-- A post to the command ring (R7, R9). -/
def postCommand (index : Nat) (s : State) : State :=
  let d := s.rings.command
  if d.state = .closed then s
  else if d.validProducerPost index then startCommandFetch (s.setCommandRing { d with producer := index })
  else faultReport .commandPostInvalid 0 s

/-- A post to sample ring `n` (R7, R9). -/
def postSample (n : Fin 8) (index : Nat) (s : State) : State :=
  let r := s.rings.sample[n]
  if r.state = .closed then s
  else if r.validProducerPost index then startSampleFetch n (s.setSampleRing n { r with producer := index })
  else s.setSampleRing n (r.faultWith .badPost)

/-- The reply ring after a valid consumer post: an empty ring's attention flag is cleared (R8, R11). -/
def ReplyRing.consumed (index : Nat) (r : ReplyRing) : ReplyRing :=
  { r with consumer := index, attention := r.attention && index != r.producer }

/-- An event ring after a valid consumer post (R8, R11). -/
def EventRing.consumed (index : Nat) (r : EventRing) : EventRing :=
  { r with consumer := index, attention := r.attention && index != r.producer }

/-- A post to the reply ring (R8, R9). -/
def postReply (index : Nat) (s : State) : State :=
  let r := s.rings.reply
  if r.state = .closed then s
  else if r.validConsumerPost index then startCommandFetch (s.setReplyRing (r.consumed index))
  else faultReport .replyPostInvalid 0 s

/-- A post to event ring `n` (R8, R9). -/
def postEvent (n : Fin 4) (index : Nat) (s : State) : State :=
  let r := s.rings.event[n]
  if r.state = .closed then s
  else if r.validConsumerPost index then checkWriter n (s.setEventRing n (r.consumed index))
  else s.setEventRing n (r.faultWith .badPost)

/-- A write of POST (R7): discarded in IDLE and LOADING and for selectors 14 and 15, and otherwise sorted by the ring it names. -/
def writePost (word : Word) (s : State) : State :=
  if s.control.engine = .idle ∨ s.control.engine = .loading then s
  else
    match ringOfSelector (postSelector word) with
    | none => s
    | some .command => postCommand (postIndex word) s
    | some .reply => postReply (postIndex word) s
    | some (.sample n) => postSample n (postIndex word) s
    | some (.event n) => postEvent n (postIndex word) s

/-! ## Any write of the window (R173) -/

/-- A 32-bit write at an offset of the window (R173, R175). -/
def writeRegister (offset : Nat) (value : Word) (s : State) : State :=
  if offset = 0x04 then
    if value = 1 then startCode s else if value = 2 then stopCode s else if value = 3 then softReset s else s
  else if offset = 0x0C then writeSetupLo value s
  else if offset = 0x10 then writeSetupHi value s
  else if offset = 0x14 then writePost value s
  else s

/-! ## Time (R193, R194, R64) -/

/-- A read of TIME_LO: its bytes go onto the host link, and the upper 16 bits of the time base are captured (R194). While RST_N is
asserted it returns 0 and captures nothing (R196). -/
def readTimeLo (lanes : BitVec 4) (s : State) : State :=
  let t : State := { s with readData := registerRead s 0x24 lanes }
  if s.control.rstAsserted ∨ lanes = 0 then t
  else t.mapControl fun c => { c with timeCapture := c.timeBase.extractLsb' 32 16 }

/-- The expiries that are due at the time base's present value, in ascending stream order (R64; the order among streams is a DESIGN
CHOICE, log 5, unsafe). -/
def takeDueExpiries (s : State) : State := (List.finRange 64).foldl (fun t i => expireIfDue i t) s

/-- The time base increases by 1 (R193). -/
def advanceTime (s : State) : State := s.mapControl fun c => { c with timeBase := c.timeBase + 1 }

/-! ## The rows -/

/-- START (R175). -/
def execStart (s : State) : Host.Outcome State Fault Refusal := .next (busWrite startCode s)

/-- STOP (R175, R186). -/
def execStop (s : State) : Host.Outcome State Fault Refusal := .next (busWrite stopCode s)

/-- RESET (R175, R197). -/
def execReset (s : State) : Host.Outcome State Fault Refusal := .next (busWrite softReset s)

/-- SETUP_LO (R179). -/
def execSetupLo (value : Word) (s : State) : Host.Outcome State Fault Refusal := .next (busWrite (writeSetupLo value) s)

/-- SETUP_HI (R179). -/
def execSetupHi (value : Word) (s : State) : Host.Outcome State Fault Refusal := .next (busWrite (writeSetupHi value) s)

/-- PRODUCER_POST (R7, R9). The word is the POST word whatever its selector (log 14). -/
def execProducerPost (word : Word) (s : State) : Host.Outcome State Fault Refusal := .next (busWrite (writePost word) s)

/-- CONSUMER_POST (R8, R9). The word is the POST word whatever its selector (log 14). -/
def execConsumerPost (word : Word) (s : State) : Host.Outcome State Fault Refusal := .next (busWrite (writePost word) s)

/-- TIME_LO_READ (R194). -/
def execTimeLoRead (lanes : BitVec 4) (s : State) : Host.Outcome State Fault Refusal := .next (readTimeLo lanes s)

/-- REGISTER_WRITE_IGNORED (R173): a write of fewer than four bytes is ignored, and any other acts by its offset and value, so that a
well-formed operand has no effect (log 14). -/
def execRegisterWriteIgnored (offset : Nat) (lanes : BitVec 4) (value : Word) (s : State) : Host.Outcome State Fault Refusal :=
  .next (if lanes = 0xF then busWrite (writeRegister offset value) s else s)

/-- HARDWARE_RESET (R196). -/
def execHardwareReset (s : State) : Host.Outcome State Fault Refusal := .next (hardReset s)

/-- RST_N_RELEASE (R196). -/
def execRstNRelease (s : State) : Host.Outcome State Fault Refusal := .next (s.mapControl fun c => { c with rstAsserted := false })

/-- SILENCE_EXPIRY (R64, R65): nothing expires where the expiry is not due (log 6). -/
def execSilenceExpiry (i : Fin 64) (s : State) : Host.Outcome State Fault Refusal := .next (expireIfDue i s)

/-- TIME_BASE_TICK (R193): the expiries due at the present value are taken before the count leaves it (R64; log 5); while RST_N is
asserted the time base holds at 0. -/
def execTimeBaseTick (s : State) : Host.Outcome State Fault Refusal :=
  .next (if s.control.rstAsserted then s else advanceTime (takeDueExpiries s))

end Sys2Proof.Machine
end

