-- ==== Sys2Proof/Machine/Dispatch.lean ====
section
/-! DEFINITION. The dispatch of commands to their meanings, one arm for each row of spec/opcode_table.json, in the table's order. -/

namespace Sys2Proof.Machine

def exec (i : Instr) (s : State) : Host.Outcome State Fault Refusal :=
  match i with
  | .start => Sys2Proof.Machine.execStart s
  | .stop => Sys2Proof.Machine.execStop s
  | .reset => Sys2Proof.Machine.execReset s
  | .setupLo value => Sys2Proof.Machine.execSetupLo value s
  | .setupHi value => Sys2Proof.Machine.execSetupHi value s
  | .producerPost word => Sys2Proof.Machine.execProducerPost word s
  | .consumerPost word => Sys2Proof.Machine.execConsumerPost word s
  | .timeLoRead lanes => Sys2Proof.Machine.execTimeLoRead lanes s
  | .registerWriteIgnored offset lanes value => Sys2Proof.Machine.execRegisterWriteIgnored offset lanes value s
  | .hardwareReset => Sys2Proof.Machine.execHardwareReset s
  | .rstNRelease => Sys2Proof.Machine.execRstNRelease s
  | .memoryAccessGrant => Sys2Proof.Machine.execMemoryAccessGrant s
  | .setupReadCompletion result => Sys2Proof.Machine.execSetupReadCompletion result s
  | .commandFetchCompletion result => Sys2Proof.Machine.execCommandFetchCompletion result s
  | .replyWriteCompletion result => Sys2Proof.Machine.execReplyWriteCompletion result s
  | .shadowWriteCompletion result => Sys2Proof.Machine.execShadowWriteCompletion result s
  | .sampleFetchCompletion ring result => Sys2Proof.Machine.execSampleFetchCompletion ring result s
  | .eventWriteCompletion ring result => Sys2Proof.Machine.execEventWriteCompletion ring result s
  | .overrunWriteCompletion ring result => Sys2Proof.Machine.execOverrunWriteCompletion ring result s
  | .completionDiscarded requester epoch => Sys2Proof.Machine.execCompletionDiscarded requester epoch s
  | .silenceExpiry stream => Sys2Proof.Machine.execSilenceExpiry stream s
  | .nop h => Sys2Proof.Machine.execNop h s
  | .unknownCommand code h => Sys2Proof.Machine.execUnknownCommand code h s
  | .openSampleRing h base slots => Sys2Proof.Machine.execOpenSampleRing h base slots s
  | .closeSampleRing h => Sys2Proof.Machine.execCloseSampleRing h s
  | .openEventRing h base slots notify floor => Sys2Proof.Machine.execOpenEventRing h base slots notify floor s
  | .closeEventRing h => Sys2Proof.Machine.execCloseEventRing h s
  | .queryRing h => Sys2Proof.Machine.execQueryRing h s
  | .bindStream h p => Sys2Proof.Machine.execBindStream h p s
  | .unbindStream h => Sys2Proof.Machine.execUnbindStream h s
  | .reviveStream h => Sys2Proof.Machine.execReviveStream h s
  | .queryStream h => Sys2Proof.Machine.execQueryStream h s
  | .createWatch h p => Sys2Proof.Machine.execCreateWatch h p s
  | .modifyWatch h p => Sys2Proof.Machine.execModifyWatch h p s
  | .deleteWatch h => Sys2Proof.Machine.execDeleteWatch h s
  | .armWatch h => Sys2Proof.Machine.execArmWatch h s
  | .disarmWatch h => Sys2Proof.Machine.execDisarmWatch h s
  | .ackWatch h => Sys2Proof.Machine.execAckWatch h s
  | .queryWatch h => Sys2Proof.Machine.execQueryWatch h s
  | .release h => Sys2Proof.Machine.execRelease h s
  | .setFloor h level => Sys2Proof.Machine.execSetFloor h level s
  | .configureAlarm h mode => Sys2Proof.Machine.execConfigureAlarm h mode s
  | .releaseAlarm h => Sys2Proof.Machine.execReleaseAlarm h s
  | .timeBaseTick => Sys2Proof.Machine.execTimeBaseTick s

end Sys2Proof.Machine
end

