-- ==== Sys2Proof/Safety.lean ====
section
/-!
DEFINITION. The terms that claims about the TS24 use: the laws that every reachable state obeys, each the spec's own law, and what it is
for a host command to be taken and answered.
-/

namespace Sys2Proof.Machine

/-- A predicate that every step keeps. -/
def KeptByStep (law : State → Prop) : Prop := ∀ s t, law s → step s = .next t → law t

/-! ## Host commands that wait (R39) -/

/-- The held command waits in EXECUTING, names `index` and asks for `q`. -/
def waitsWith (index : Nat) (q : Request) (rec : CommandRecord) (s : State) : Prop :=
  s.cmd.phase = .executing ∧ s.cmd.held = some rec ∧ rec.index.toNat = index ∧ rec.request = q

/-- The held command is a CLOSE_SAMPLE_RING of ring `n` that waits (R26). -/
def closeSampleWaits (n : Fin 8) (s : State) : Prop := ∃ rec, waitsWith n.val .closeSampleRing rec s

/-- The held command is a CLOSE_EVENT_RING of ring `n` that waits (R29). -/
def closeEventWaits (n : Fin 4) (s : State) : Prop := ∃ rec, waitsWith n.val .closeEventRing rec s

/-- The held command is an OPEN_SAMPLE_RING of ring `n` that waits (R25). -/
def openSampleWaits (n : Fin 8) (base : Addr) (slots : BitVec 16) (s : State) : Prop :=
  ∃ rec, waitsWith n.val (.openSampleRing base slots) rec s

/-- The held command is an OPEN_EVENT_RING of ring `n` that waits (R28). -/
def openEventWaits (n : Fin 4) (base : Addr) (slots : BitVec 16) (notify floor : Byte) (s : State) : Prop :=
  ∃ rec, waitsWith n.val (.openEventRing base slots notify floor) rec s

/-- A ring command waits for the fetch in flight on sample ring `n`. -/
def sampleCommandWaits (n : Fin 8) (s : State) : Prop :=
  closeSampleWaits n s ∨ ∃ base slots, openSampleWaits n base slots s

/-- A ring command waits for the write in flight on event ring `n`. -/
def eventCommandWaits (n : Fin 4) (s : State) : Prop :=
  closeEventWaits n s ∨ ∃ base slots notify floor, openEventWaits n base slots notify floor s

/-! ## Laws of single blocks -/

/-- R165: a FOLLOW line is asserted exactly while its contribution count is above 0, and a LATCH line at least then. -/
def AlarmLaw (s : State) : Prop :=
  ∀ a : Fin 4,
    (s.alarms[a].mode = .follow → (s.alarms[a].asserted = true ↔ 0 < s.alarms[a].count)) ∧
    (s.alarms[a].mode = .latch → 0 < s.alarms[a].count → s.alarms[a].asserted = true)

/-- The level of a pin (R162, R195, R208): ATTN_N is low while attention is asserted, ALM`a` high while line `a` is. -/
def pinHigh (s : State) : Pin → Bool
  | .attn => !attention s
  | .alm a => s.alarms[a].asserted

/-- The level a pin has after the changes of a record that begins at power-up, where ATTN_N is high and the ALM pins are low (R208). -/
def levelAfter (changes : List PinChange) (p : Pin) : Bool :=
  (((changes.filter fun c => c.pin == p).map PinChange.high).getLast?).getD (match p with
    | .attn => true
    | .alm _ => false)

/-- R162, R195: each pin is at the level of its last change. -/
def PinsLaw (s : State) : Prop := ∀ p, pinHigh s p = levelAfter s.pinChanges p

/-- A watch that contributes to line `a`: it names the line and is on the alarm side (R127). -/
def contributes (a : Fin 4) : Option Watch → Bool
  | some w => w.alarmLine == some a && w.state.onAlarmSide
  | none => false

/-- The number of watches that contribute to line `a`. -/
def contributors (a : Fin 4) (s : State) : Nat := ((List.finRange 128).filter fun id => contributes a s.watches[id]).length

/-- R161: the count of a line is the number of watches that contribute to it. -/
def ContributionLaw (s : State) : Prop := ∀ a : Fin 4, s.alarms[a].count = contributors a s

/-- R105, R79, R110: what holds of a watch in use. -/
structure WatchLaw (w : Watch) : Prop where
  na : 1 ≤ w.na ∧ w.na ≤ 16
  nc : 1 ≤ w.nc ∧ w.nc ≤ 16
  /-- PENDING_ASSERT holds a run of 1 to Na − 1 fire verdicts -/
  fireRun : w.state = .pendingAssert → 1 ≤ w.runCounter ∧ w.runCounter < w.na
  /-- PENDING_CLEAR holds a run of 1 to Nc − 1 clear verdicts -/
  clearRun : w.state = .pendingClear → 1 ≤ w.runCounter ∧ w.runCounter < w.nc
  /-- the run counter is nonzero only in PENDING_ASSERT and PENDING_CLEAR -/
  noRun : w.state ≠ .pendingAssert → w.state ≠ .pendingClear → w.runCounter = 0
  /-- HELD is entered by a latched watch that is not acknowledged (R109, R110) -/
  held : w.state = .held → w.latch = true ∧ w.acknowledged = false
  assertCount : w.assertCount ≤ 65535

/-- Every watch in use obeys its law. -/
def WatchesLaw (s : State) : Prop := ∀ (id : Fin 128) (w : Watch), s.watches[id] = some w → WatchLaw w

/-- R130, R131: at most 64 pending entries, at most one per source, each at level 1 to 7, none of a stream with hold. -/
structure PoolLaw (s : State) : Prop where
  size : s.pool.length ≤ 64
  oneEach : (s.pool.map PendingEntry.source).Nodup
  level : ∀ e ∈ s.pool, 0 < e.level
  fold : ∀ e ∈ s.pool, e.foldCount ≤ 255
  streamHold : ∀ e ∈ s.pool, ∀ i, e.source = .stream i → e.hold = false

/-- The record of an event ring's write in flight, if one is. -/
def recordInFlight (n : Fin 4) (s : State) : Option EventRecord :=
  match s.access (eventRequester n) with
  | some { payload := .eventWrite r, .. } => some r
  | _ => none

/-- R141, R145, R148: what holds of event ring `n`'s delivery state. -/
structure DeliveryLaw (n : Fin 4) (s : State) : Prop where
  /-- the floor stack holds strictly increasing levels -/
  increasing : s.delivery[n].floorStack.Pairwise (· < ·)
  /-- every one above the base floor -/
  aboveBase : ∀ l ∈ s.delivery[n].floorStack, s.delivery[n].baseFloor < l
  /-- a hold record in flight is above the current floor -/
  holdAbove : ∀ r, recordInFlight n s = some r → r.holds = true → s.delivery[n].currentFloor < r.level
  /-- an OVERRUN record in flight carries at least one loss, and none that is no longer counted -/
  carried : ∀ lap k time, recordInFlight n s = some (.overrun lap k time) → 1 ≤ k ∧ k ≤ s.delivery[n].lost
  owed : s.delivery[n].owed = true ↔ 0 < s.delivery[n].lost
  lost : s.delivery[n].lost ≤ 65535
  /-- a CLOSED ring has no write in flight -/
  closed : s.rings.event[n].state = .closed → s.access (eventRequester n) = none

/-- The delivery law of all four event rings. -/
def FloorsLaw (s : State) : Prop := ∀ n : Fin 4, DeliveryLaw n s

/-- The setup read is in flight. -/
def setupReadInFlight (s : State) : Prop := ∃ a, s.access commandRequester = some a ∧ a.payload = .setupRead

/-- R177, R190, R191: the fault record and the held requests. -/
structure FaultLaw (s : State) : Prop where
  /-- the kind is NONE exactly while the engine is not in FAULT -/
  kind : s.control.faultKind = .noFault ↔ s.control.engine ≠ .fault
  clear : s.control.faultKind = .noFault → s.control.faultAddr = 0 ∧ s.control.furtherFaults = 0
  further : s.control.furtherFaults ≤ 255
  /-- the held STOP exists in LOADING, the held START in STOPPING -/
  heldStop : s.control.heldStop = true → s.control.engine = .loading
  heldStart : s.control.heldStart = true → s.control.engine = .stopping
  setupRead : setupReadInFlight s → s.control.engine = .loading ∨ s.control.engine = .fault

/-- R33: the access in flight on requesters 1 and 2, the held command and the reply in hand in each command engine state. -/
def CommandPathLaw (s : State) : Prop :=
  match s.cmd.phase with
  | .waiting =>
    s.cmd.held = none ∧ s.cmd.reply = none ∧ s.access replyRequester = none ∧
      ∀ a, s.access commandRequester = some a → a.payload = .setupRead ∧ (s.control.engine = .loading ∨ s.control.engine = .fault)
  | .fetching =>
    s.cmd.held = none ∧ s.cmd.reply = none ∧ s.access replyRequester = none ∧
      (∃ a, s.access commandRequester = some a ∧ a.payload = .commandFetch) ∧
      s.control.engine ≠ .idle ∧ s.control.engine ≠ .loading
  | .executing =>
    s.cmd.held.isSome = true ∧ s.cmd.reply = none ∧ s.access replyRequester = none ∧ s.access commandRequester = none ∧
      s.control.engine ≠ .idle ∧ s.control.engine ≠ .loading
  | .replying =>
    s.cmd.held.isSome = true ∧
      (∃ r a, s.cmd.reply = some r ∧ s.access replyRequester = some a ∧ a.payload = .replyWrite r) ∧
      s.access commandRequester = none ∧ s.control.engine ≠ .idle ∧ s.control.engine ≠ .loading

/-- R176, R180, R188: nothing is in flight in IDLE and STOPPED, and in LOADING nothing but the setup read. -/
structure QuietLaw (s : State) : Prop where
  idle : s.control.engine = .idle → drained s = true
  stopped : s.control.engine = .stopped → drained s = true
  loading : s.control.engine = .loading →
    setupReadInFlight s ∧ (∀ r, r ≠ commandRequester → s.access r = none) ∧ s.rings.shadowOwed = false ∧ s.cmd.phase = .waiting

/-- R2, R3: the geometry and the indices of a ring that is not CLOSED, for records of slot counts `lo` to `hi`. -/
def DescriptorLaw (lo hi : Nat) (d : Descriptor) : Prop :=
  d.state ≠ .closed → validGeometry lo hi d.base d.slots = true ∧ d.producer < d.slots ∧ d.consumer < d.slots

/-- R2, R3, R5: the descriptors of all fourteen rings; the command and reply rings are never FAULTED. -/
structure RingsLaw (s : State) : Prop where
  command : DescriptorLaw 8 1024 s.rings.command
  reply : DescriptorLaw 8 1024 s.rings.reply.toDescriptor
  sample : ∀ n : Fin 8, DescriptorLaw 16 4096 s.rings.sample[n].toDescriptor
  event : ∀ n : Fin 4, DescriptorLaw 8 1024 s.rings.event[n].toDescriptor
  commandState : s.rings.command.state ≠ .faulted
  replyState : s.rings.reply.state ≠ .faulted
  /-- a ring has a cause exactly while it is FAULTED -/
  sampleCause : ∀ n : Fin 8, s.rings.sample[n].cause = .noCause ↔ s.rings.sample[n].state ≠ .faulted
  eventCause : ∀ n : Fin 4, s.rings.event[n].cause = .noCause ↔ s.rings.event[n].state ≠ .faulted
  /-- an OPEN_SAMPLE_RING that waits has passed its checks (R40) -/
  sampleWaiting : ∀ n base slots, openSampleWaits n base slots s → validGeometry 16 4096 base slots.toNat = true
  /-- an OPEN_EVENT_RING that waits has passed its checks (R40) -/
  eventWaiting : ∀ n base slots notify floor, openEventWaits n base slots notify floor s → validGeometry 8 1024 base slots.toNat = true

/-! ## Laws across blocks -/

/-- R53, R86: the watch table and the watch lists name each other. -/
structure WatchListLaw (s : State) : Prop where
  ascending : ∀ i : Fin 64, s.streams[i].watchList.Pairwise (· < ·)
  length : ∀ i : Fin 64, s.streams[i].watchList.length ≤ 8
  unbound : ∀ i : Fin 64, s.streams[i].state = .unbound → s.streams[i].watchList = []
  listed : ∀ (id : Fin 128) (w : Watch), s.watches[id] = some w → id ∈ s.streams[w.stream].watchList
  inUse : ∀ (i : Fin 64) (id : Fin 128), id ∈ s.streams[i].watchList → ∃ w, s.watches[id] = some w ∧ w.stream = i

/-- R27, R76, R86: the rings that bound streams and watches use are not CLOSED, and a close that waits has no users. -/
structure RingUsersLaw (s : State) : Prop where
  sample : ∀ n : Fin 8, sampleRingUsed n s = true → s.rings.sample[n].state ≠ .closed
  event : ∀ n : Fin 4, eventRingUsed n s = true → s.rings.event[n].state ≠ .closed
  sampleClosing : ∀ n : Fin 8, closeSampleWaits n s → sampleRingUsed n s = false
  eventClosing : ∀ n : Fin 4, closeEventWaits n s → eventRingUsed n s = false

/-- R51, R52, R63, R64: a stream's deadline and held indication. -/
structure StreamLaw (x : Stream) : Prop where
  /-- a deadline is kept exactly by a BOUND or LIVE stream with a timeout -/
  deadline : x.deadline.isSome = true ↔ x.inService = true ∧ x.timeout ≠ 0
  held : x.held = true → x.state = .silent
  counters : x.missing ≤ 65535 ∧ x.stale ≤ 65535 ∧ x.bad ≤ 65535 ∧ x.heldCount ≤ 65535

/-- Every stream table entry obeys its law. -/
def StreamsLaw (s : State) : Prop := ∀ i : Fin 64, StreamLaw s.streams[i]

/-- The kind of access a requester makes (R17). -/
def requesterMakes (r : Requester) : Payload → Bool
  | .shadowWrite indices => r.val == 0 && indices.length == 9
  | .setupRead | .commandFetch => r.val == 1
  | .replyWrite _ => r.val == 2
  | .sampleFetch count => 3 ≤ r.val && r.val ≤ 10 && count ≤ 8
  | .eventWrite _ => 11 ≤ r.val

/-- R17, R20: each requester makes its own kind of access; accesses in flight carry the current epoch, and the others that are still on
the link an older one. -/
structure EpochLaw (s : State) : Prop where
  kind : ∀ r a, s.access r = some a → requesterMakes r a.payload = true
  current : ∀ r a, s.access r = some a → a.epoch = s.mau.epoch
  older : ∀ x ∈ s.mau.stale, x.2.epoch < s.mau.epoch

/-! ## What the blocks' own checks start

Each predicate compares the state `u` at a check with the state `t` after it. -/

/-- An access just handed over in the state `u` (R17, R20). -/
def handed (u : State) (p : Payload) (address : Addr) : Option Access :=
  some { payload := p, address := address, epoch := u.mau.epoch, phase := .waiting }

/-- R15: the owed shadow write is issued while requester 0 is free and the engine is RUN or STOPPING; that the check comes at the end of
the event that makes it owed is log 11. It carries the consumer indices of the command ring and of sample rings 0 to 7 as they stand
(R13). -/
def ShadowChecked (u t : State) : Prop :=
  if u.rings.shadowOwed = true ∧ u.access shadowRequester = none ∧ (u.control.engine = .run ∨ u.control.engine = .stopping) then
    t = (u.setShadowOwed false).setAccess shadowRequester
      (handed u
        (.shadowWrite
          [u.rings.command.consumer, u.rings.sample[0].consumer, u.rings.sample[1].consumer, u.rings.sample[2].consumer,
            u.rings.sample[3].consumer, u.rings.sample[4].consumer, u.rings.sample[5].consumer, u.rings.sample[6].consumer,
            u.rings.sample[7].consumer])
        u.rings.shadowAddr)
  else t = u

/-- R34, R35: the command fetch starts where its conditions hold. -/
def CommandFetchChecked (u t : State) : Prop :=
  if u.cmd.phase = .waiting ∧ u.control.engine = .run ∧ u.rings.command.state = .opened ∧ 0 < u.rings.command.count
      ∧ u.rings.reply.count < u.rings.reply.slots - 1 then
    t = (u.setCmd { u.cmd with phase := .fetching }).setAccess commandRequester
      (handed u .commandFetch (addressAt u.rings.command.base (u.rings.command.consumer * 32)))
  else t = u

/-- The access that R22 and R54 start on sample ring `n`, if they start one: the least of 8, the count, and slots − consumer index
records from the consumer index on. -/
def fetchStarted (n : Fin 8) (u : State) : Option Access :=
  let r := u.rings.sample[n]
  if u.control.engine = .run ∧ r.state = .opened ∧ 0 < r.count ∧ u.access (sampleRequester n) = none then
    handed u (.sampleFetch (min 8 (min r.count (r.slots - r.consumer)))) (addressAt r.base (r.consumer * 8))
  else none

/-- R22, R54: the fetch from sample ring `n` starts where its conditions hold. -/
def SampleFetchChecked (n : Fin 8) (u t : State) : Prop :=
  match fetchStarted n u with
  | some a => t = u.setAccess (sampleRequester n) (some a)
  | none => t = u

/-- R54 for all eight rings, at an entry into RUN: nothing but the accesses on requesters 3 to 10 can differ. -/
structure SampleFetchesChecked (u t : State) : Prop where
  rest : t = { u with mau := { u.mau with inFlight := t.mau.inFlight } }
  others : ∀ r : Requester, (∀ n, r ≠ sampleRequester n) → t.access r = u.access r
  rings : ∀ n, t.access (sampleRequester n) = (fetchStarted n u).or (u.access (sampleRequester n))

/-- The first four conditions of R142. -/
def WriterCan (n : Fin 4) (u : State) : Prop :=
  u.rings.event[n].state = .opened ∧ u.control.engine = .run ∧ u.access (eventRequester n) = none
    ∧ u.rings.event[n].count < u.rings.event[n].slots - 1

/-- R143: `e` is the oldest pending entry of the highest level among those of ring `n` above the current floor. -/
def IsChoice (n : Fin 4) (u : State) (e : PendingEntry) : Prop :=
  u.delivery[n].currentFloor < e.level ∧
    ∃ older younger, pendingOrder n u.pool = older ++ e :: younger ∧
      (∀ x ∈ older, u.delivery[n].currentFloor < x.level → x.level < e.level) ∧ ∀ x ∈ younger, x.level ≤ e.level

/-- The state `u` with the write of the record `r` handed over on event ring `n`, to the slot at the producer index (R144). -/
def withRecord (n : Fin 4) (r : EventRecord) (u : State) : State :=
  u.setAccess (eventRequester n)
    (handed u (.eventWrite r) (addressAt u.rings.event[n].base (u.rings.event[n].producer * 32)))

/-- R142 to R145: what the writer of event ring `n` does at a check. -/
structure WriterChecked (n : Fin 4) (u t : State) : Prop where
  /-- a condition fails -/
  idle : ¬ WriterCan n u → t = u
  /-- an owed overrun comes first, with the lost count as it stands (R145) -/
  overrun : WriterCan n u → u.delivery[n].owed = true →
    t = withRecord n (.overrun u.rings.event[n].lap u.delivery[n].lost u.control.timeBase) u
  /-- the chosen entry leaves the pool (R144) -/
  entry : WriterCan n u → u.delivery[n].owed = false → ∀ e, IsChoice n u e →
    t = withRecord n (.entry u.rings.event[n].lap e) (u.setPool (u.pool.erase e))
  /-- nothing is deliverable -/
  nothing : WriterCan n u → u.delivery[n].owed = false → (∀ e ∈ pendingOrder n u.pool, e.level ≤ u.delivery[n].currentFloor) → t = u

/-- The silence deadlines of an entry into RUN (R69). -/
def rebased (time : Time) (x : Stream) : Stream :=
  if (x.state = .bound ∨ x.state = .live) ∧ x.timeout ≠ 0 then
    { x with deadline := some (time + BitVec.ofNat 48 (x.timeout.toNat * 1000)) }
  else x

/-- R184: the entry into RUN from STOPPED, or at the end of STOPPING: deadlines are rebased, and the command engine, the sample intake
and the four writers start what their conditions allow. -/
def EntersRun (s t : State) : Prop :=
  ∃ u v w₀ w₁ w₂ w₃ : State,
    u = { s with
      control := { s.control with engine := .run }
      streams := Vector.ofFn fun i => rebased s.control.timeBase s.streams[i] } ∧
    CommandFetchChecked u v ∧ SampleFetchesChecked v w₀ ∧
    WriterChecked 0 w₀ w₁ ∧ WriterChecked 1 w₁ w₂ ∧ WriterChecked 2 w₂ w₃ ∧ WriterChecked 3 w₃ t

/-- R187: nothing is in flight, no shadow write is owed and the command engine is WAITING. -/
def Quiet (s : State) : Prop := (∀ r, s.access r = none) ∧ s.rings.shadowOwed = false ∧ s.cmd.phase = .waiting

/-- R187: the check of the end condition of STOPPING. -/
structure StoppingEndChecked (u t : State) : Prop where
  stays : ¬ (u.control.engine = .stopping ∧ Quiet u) → t = u
  stops : u.control.engine = .stopping → Quiet u → u.control.heldStart = false → t = u.setEngine .stopped
  restarts : u.control.engine = .stopping → Quiet u → u.control.heldStart = true →
    EntersRun (u.mapControl fun c => { c with heldStart := false }) t

/-- R190, R191: a fault report of kind `k` with the failing address `a`; ATTN_N falls unless it is low already (R195). -/
structure FaultReported (k : FaultKind) (a : Addr) (u t : State) : Prop where
  first : u.control.faultKind = .noFault →
    t = { u with
      control := { u.control with engine := .fault, heldStart := false, heldStop := false, faultKind := k, faultAddr := a }
      pinChanges := u.pinChanges ++ if attention u = true then [] else [{ pin := .attn, high := false }] }
  further : u.control.faultKind ≠ .noFault →
    t = { u with
      control :=
        { u.control with
          engine := .fault, heldStart := false, heldStop := false, furtherFaults := min 255 (u.control.furtherFaults + 1) }
      pinChanges := u.pinChanges ++ if attention u = true then [] else [{ pin := .attn, high := false }] }

/-! ## Hand-overs of events (R132 to R135) -/

/-- An entry after the event `e` has folded into it (R133). -/
def folded (e : Event) (p : PendingEntry) : PendingEntry :=
  { p with
    lastKind := e.kind
    foldCount := min 255 (p.foldCount + 1)
    level := max p.level e.level
    value := e.value
    sequence := e.sequence
    time := e.time
    fallback := e.fallback }

/-- The hand-over of the event `e`: it is folded, allocated or lost, and the ring's writer checks its conditions. -/
structure EventHanded (e : Event) (u t : State) : Prop where
  /-- R133: the source has the pending entry `p` -/
  folds : ∀ older p younger, u.pool = older ++ p :: younger → p.source = e.source →
    (∀ x ∈ older, x.source ≠ e.source) → (∀ x ∈ younger, x.source ≠ e.source) →
      WriterChecked p.target (u.setPool (older ++ folded e p :: younger)) t
  /-- R134: the source has none and an entry is free -/
  allocates : (∀ x ∈ u.pool, x.source ≠ e.source) → u.pool.length < 64 →
    WriterChecked e.target
      (u.setPool (u.pool ++
        [{ target := e.target, source := e.source, stream := e.stream, hold := e.hold, firstKind := e.kind, lastKind := e.kind,
           foldCount := 0, level := e.level, value := e.value, sequence := e.sequence, time := e.time, fallback := e.fallback }])) t
  /-- R135: the source has none and all 64 entries are pending -/
  loses : (∀ x ∈ u.pool, x.source ≠ e.source) → 64 ≤ u.pool.length →
    WriterChecked e.target
      (u.setDelivery e.target { u.delivery[e.target] with lost := min 65535 (u.delivery[e.target].lost + 1), owed := true }) t

/-! ## Host commands that are taken -/

/-- The engine is RUN or STOPPING and a command fetch is on the host link: the event of a host command's row can happen (R36). -/
def commandArrives (s : State) : Bool :=
  (s.control.engine == .run || s.control.engine == .stopping) &&
    match s.access commandRequester with
    | some a => a.payload == .commandFetch && a.phase == .onLink
    | none => false

/-- The command `rec` is taken (R36): the consumer index advances, a shadow write becomes owed, and the command is held. -/
def taken (rec : CommandRecord) (s : State) : State :=
  { s with
    mau := { s.mau with inFlight := s.mau.inFlight.set commandRequester none }
    rings :=
      { s.rings with
        command := { s.rings.command with consumer := (s.rings.command.consumer + 1) % s.rings.command.slots }
        shadowOwed := true }
    cmd := { phase := .executing, held := some rec, reply := none } }

/-- The reply the command engine builds for a command (R42). -/
def replyFor (u : State) (rec : CommandRecord) (status : Status) (words : Words) : ReplyRecord :=
  { lap := u.rings.reply.lap, status := status, tag := rec.tag, code := rec.code, words := words }

/-- The state `u` with the reply handed over (R42). -/
def replied (rec : CommandRecord) (status : Status) (words : Words) (u : State) : State :=
  (u.setCmd { phase := .replying, held := some rec, reply := some (replyFor u rec status words) }).setAccess replyRequester
    (handed u (.replyWrite (replyFor u rec status words)) (addressAt u.rings.reply.base (u.rings.reply.producer * 32)))

/-- The row `i` completes in `s`: the command `rec` has led to the state `u`, the reply is handed over, and the owed shadow write is
issued where requester 0 is free (R42, R15). -/
def Answers (i : Instr) (s : State) (rec : CommandRecord) (status : Status) (words : Words) (u : State) : Prop :=
  ∃ t, exec i s = .next t ∧ ShadowChecked (replied rec status words u) t

/-- The command is refused: it is taken and answered, every result word is 0, and nothing else changes (R40). -/
def Refuses (i : Instr) (s : State) (rec : CommandRecord) (status : Status) : Prop := Answers i s rec status {} (taken rec s)

/-- The command is taken and waits in EXECUTING (R39). -/
def Waits (i : Instr) (s : State) (rec : CommandRecord) : Prop := ∃ t, exec i s = .next t ∧ ShadowChecked (taken rec s) t

/-- A geometry that R2 allows for a ring of `lo` to `hi` slots. -/
def GoodGeometry (lo hi : Nat) (base : Addr) (slots : Nat) : Prop :=
  (∃ k, slots = 2 ^ k) ∧ lo ≤ slots ∧ slots ≤ hi ∧ 64 ∣ base.toNat

/-- A result word of packed fields (R203): for each the lowest bit, the width and the value. -/
def packed (fields : List (Nat × Nat × Nat)) : Word :=
  BitVec.ofNat 32 ((fields.map fun f => f.2.2 % 2 ^ f.2.1 * 2 ^ f.1).sum)

/-- A completion of requester `r`'s access reaches its block: the access `a` is on the link and the engine is not in FAULT (R19,
R21). -/
def Returns (r : Requester) (a : Access) (s : State) : Prop :=
  s.access r = some a ∧ a.phase = .onLink ∧ s.control.engine ≠ .fault

/-- The requester whose access a row of the table completes, for the rows that complete one; a host command's row completes the
command fetch that brings it. -/
def rowRequester : Instr → Option Requester
  | .setupReadCompletion _ | .commandFetchCompletion _ => some commandRequester
  | .replyWriteCompletion _ => some replyRequester
  | .shadowWriteCompletion _ => some shadowRequester
  | .sampleFetchCompletion n _ => some (sampleRequester n)
  | .eventWriteCompletion n _ | .overrunWriteCompletion n _ => some (eventRequester n)
  | i => i.request.map fun _ => commandRequester

/-- The accesses a row completes. -/
def rowCompletes : Instr → Payload → Bool
  | .setupReadCompletion _, .setupRead => true
  | .replyWriteCompletion _, .replyWrite _ => true
  | .shadowWriteCompletion _, .shadowWrite _ => true
  | .sampleFetchCompletion _ (.ok records), .sampleFetch count => records.length == count
  | .sampleFetchCompletion _ .accessError, .sampleFetch _ => true
  | .eventWriteCompletion _ _, .eventWrite (.entry _ _) => true
  | .overrunWriteCompletion _ _, .eventWrite (.overrun _ _ _) => true
  | .commandFetchCompletion _, .commandFetch => true
  | i, .commandFetch => i.request.isSome
  | _, _ => false

/-! ## Event record writes (R24, R147 to R150) -/

/-- The state `u` with the write of the record `r` on event ring `n` ended, before the ring's writer checks its conditions. -/
def writeEnded (n : Fin 4) (r : EventRecord) (success : Bool) (u : State) : State :=
  let ring := u.rings.event[n]
  let d := u.delivery[n]
  if success then
    (u.setEventRing n
      { ring with
        producer := (ring.producer + 1) % ring.slots
        lap := if ring.producer + 1 = ring.slots then !ring.lap else ring.lap
        attention := ring.attention || decide (ring.notify ≤ r.level) }).setDelivery n
      (match r with
       | .entry _ e => if e.hold then { d with floorStack := d.floorStack ++ [e.level] } else d
       | .overrun _ carried _ => { d with lost := d.lost - carried, owed := decide (carried < d.lost) })
  else
    (u.setEventRing n (if ring.state = .opened then { ring with state := .faulted, cause := .accessError } else ring)).setDelivery n
      (match r with
       | .entry _ _ => { d with lost := min 65535 (d.lost + 1), owed := true }
       | .overrun _ _ _ => d)

/-! ## Silence expiries (R64 to R66) -/

/-- From `u` to `t`, the silence expiries of the streams of the list are taken one after another, each by its own row. -/
def ExpiriesTaken : List (Fin 64) → State → State → Prop
  | [], u, t => t = u
  | i :: is, u, t => ∃ v, exec (.silenceExpiry i) u = .next v ∧ ExpiriesTaken is v t

/-! ## Fields of records (R199) -/

/-- The unsigned number that bytes spell, least significant first (R199). -/
def littleEndian : List Byte → Nat
  | [] => 0
  | b :: bs => b.toNat + 256 * littleEndian bs

/-- The unsigned field of `width` bytes at an offset of a record (R199). -/
def field (bytes : List Byte) (offset width : Nat) : Nat := littleEndian ((bytes.drop offset).take width)

/-- The fields of a sample record, at their offsets (R204). -/
def sampleFields (bytes : List Byte) : SampleRecord where
  stream := BitVec.ofNat 8 (field bytes 0 1)
  bad := decide (field bytes 1 1 % 2 = 1)
  sequence := BitVec.ofNat 16 (field bytes 2 2)
  value := BitVec.ofNat 32 (field bytes 4 4)

/-- The fields of the setup block, at their offsets (R200). -/
def setupFields (bytes : List Byte) : SetupBlock where
  commandBase := BitVec.ofNat 64 (field bytes 0 8)
  replyBase := BitVec.ofNat 64 (field bytes 8 8)
  shadowAddr := BitVec.ofNat 64 (field bytes 16 8)
  commandSlots := BitVec.ofNat 16 (field bytes 24 2)
  replySlots := BitVec.ofNat 16 (field bytes 26 2)

/-- The parameters of BIND_STREAM, at their offsets in the command record (R202). -/
def bindFields (bytes : List Byte) : BindParams where
  sampleRing := BitVec.ofNat 8 (field bytes 8 1)
  eventRing := BitVec.ofNat 8 (field bytes 9 1)
  level := BitVec.ofNat 8 (field bytes 10 1)
  fallbackPresent := BitVec.ofNat 8 (field bytes 11 1)
  timeout := BitVec.ofNat 16 (field bytes 12 2)
  fallback := BitVec.ofNat 32 (field bytes 16 4)

/-- The parameters of CREATE_WATCH and MODIFY_WATCH, at their offsets in the command record (R202). -/
def watchFields (bytes : List Byte) : WatchParams where
  stream := BitVec.ofNat 8 (field bytes 8 1)
  kind := BitVec.ofNat 8 (field bytes 9 1)
  level := BitVec.ofNat 8 (field bytes 10 1)
  target := BitVec.ofNat 8 (field bytes 11 1)
  alarmLine := BitVec.ofNat 8 (field bytes 12 1)
  attributes := BitVec.ofNat 8 (field bytes 13 1)
  na := BitVec.ofNat 8 (field bytes 14 1)
  nc := BitVec.ofNat 8 (field bytes 15 1)
  upper := BitVec.ofNat 32 (field bytes 16 4)
  lower := BitVec.ofNat 32 (field bytes 20 4)
  hysteresis := BitVec.ofNat 32 (field bytes 24 4)

/-- What a command record asks for: its code names the command, and the fields of its parameters stand at their offsets (R201, R202). -/
def requestFields (bytes : List Byte) : Request :=
  let base := BitVec.ofNat 64 (field bytes 8 8)
  let slots := BitVec.ofNat 16 (field bytes 16 2)
  let code := field bytes 0 1
  if code = 0x00 then .nop
  else if code = 0x10 then .openSampleRing base slots
  else if code = 0x11 then .closeSampleRing
  else if code = 0x12 then .openEventRing base slots (BitVec.ofNat 8 (field bytes 18 1)) (BitVec.ofNat 8 (field bytes 19 1))
  else if code = 0x13 then .closeEventRing
  else if code = 0x14 then .queryRing
  else if code = 0x20 then .bindStream (bindFields bytes)
  else if code = 0x21 then .unbindStream
  else if code = 0x22 then .reviveStream
  else if code = 0x23 then .queryStream
  else if code = 0x30 then .createWatch (watchFields bytes)
  else if code = 0x31 then .modifyWatch (watchFields bytes)
  else if code = 0x32 then .deleteWatch
  else if code = 0x33 then .armWatch
  else if code = 0x34 then .disarmWatch
  else if code = 0x35 then .ackWatch
  else if code = 0x36 then .queryWatch
  else if code = 0x40 then .release
  else if code = 0x41 then .setFloor (BitVec.ofNat 8 (field bytes 8 1))
  else if code = 0x50 then .configureAlarm (BitVec.ofNat 8 (field bytes 8 1))
  else if code = 0x51 then .releaseAlarm
  else .unknown (BitVec.ofNat 8 code)

/-- The 32 bytes of a reply record spell its fields at their offsets, and 0 between them (R203). -/
structure SpellsReply (r : ReplyRecord) (bytes : List Byte) : Prop where
  length : bytes.length = 32
  lap : field bytes 0 1 = r.lap.toNat
  status : field bytes 1 1 = match r.status with
    | .ok => 0
    | .unknownCommand => 1
    | .badArgument => 2
    | .notFound => 3
    | .inUse => 4
    | .wrongState => 5
    | .full => 6
    | .stillActive => 7
  tag : field bytes 2 2 = r.tag.toNat
  code : field bytes 4 1 = r.code.toNat
  unused : field bytes 5 11 = 0
  word0 : field bytes 16 4 = r.words.w0.toNat
  word1 : field bytes 20 4 = r.words.w1.toNat
  word2 : field bytes 24 4 = r.words.w2.toNat
  word3 : field bytes 28 4 = r.words.w3.toNat

/-- The 36 bytes of a shadow write spell nine words, each an index in bits 15 to 0 (R206). -/
structure SpellsShadow (indices : List Nat) (bytes : List Byte) : Prop where
  length : bytes.length = 36
  word : ∀ (k : Nat) (h : k < indices.length), field bytes (4 * k) 4 = indices[k] % 65536

/-- The fields of an event record as numbers (R205). -/
structure EventFields where
  lap      : Bool
  kind     : Nat
  level    : Nat
  fold     : Nat
  watch    : Nat
  stream   : Nat
  flags    : Nat
  sequence : Nat
  value    : Nat
  time     : Nat
  lost     : Nat

/-- The 32 bytes of an event record spell its fields at their offsets, and 0 between them (R205). -/
structure SpellsEvent (f : EventFields) (bytes : List Byte) : Prop where
  length : bytes.length = 32
  lap : field bytes 0 1 = f.lap.toNat
  kind : field bytes 1 1 = f.kind
  level : field bytes 2 1 = f.level
  fold : field bytes 3 1 = f.fold
  watch : field bytes 4 1 = f.watch
  stream : field bytes 5 1 = f.stream
  flags : field bytes 6 1 = f.flags
  unused : field bytes 7 1 = 0 ∧ field bytes 10 2 = 0 ∧ field bytes 26 6 = 0
  sequence : field bytes 8 2 = f.sequence
  value : field bytes 12 4 = f.value
  time : field bytes 16 8 = f.time
  lost : field bytes 24 2 = f.lost

/-- The fields of the record of an entry: its last kind, FFh for the watch of a stream's event, FALLBACK in flag bit 0, and in flag bit 1
FOLDED_FIRST_ASSERT, set where the entry has folded and its first kind is WATCH_ASSERT (R146, R205). -/
def entryFields (lap : Bool) (e : PendingEntry) : EventFields where
  lap := lap
  kind := match e.lastKind with
    | .watchAssert => 1
    | .watchClear => 2
    | .streamSilent => 3
  level := e.level.val
  fold := e.foldCount
  watch := match e.source with
    | .watch id => id.val
    | .stream _ => 255
  stream := e.stream.val
  flags := e.fallback.toNat + 2 * (decide (0 < e.foldCount ∧ e.firstKind = .watchAssert)).toNat
  sequence := e.sequence.toNat
  value := e.value.toNat
  time := e.time.toNat
  lost := 0

/-- The fields of an OVERRUN record: kind 4, level 7, no watch, and the carried lost count (R145, R205). -/
def overrunFields (lap : Bool) (carried : Nat) (time : Time) : EventFields where
  lap := lap
  kind := 4
  level := 7
  fold := 0
  watch := 255
  stream := 0
  flags := 0
  sequence := 0
  value := 0
  time := time.toNat
  lost := carried

/-! ## Pins -/

/-- From `s` to `t`, ATTN_N is noted where attention has changed, and nothing else is (R195). -/
def AttentionNoted (s t : State) : Prop :=
  t.pinChanges = s.pinChanges ++ if attention t = attention s then [] else [{ pin := .attn, high := !attention t }]

/-- The changes of ATTN_N and of the asserted lines that go low, at an event that leaves attention deasserted (R170, R171, R195); those of
one event are listed ATTN_N first, then ALM0 to ALM3 (log 15). -/
def goneIdle (attentionWas : Bool) (falls : Fin 4 → Bool) : List PinChange :=
  (if attentionWas then [{ pin := .attn, high := true }] else []) ++
    ((List.finRange 4).filter falls).map fun a => { pin := .alm a, high := false }

/-! ## Watches, contributions and evaluation -/

/-- A watch after a run break (R112). -/
def brokenRun (w : Watch) : Watch :=
  { w with
    state := match w.state with
      | .pendingAssert => .clear
      | .pendingClear => .asserted
      | st => st
    runCounter := 0 }

/-- The state `u` with a run break applied to every watch of the list (R113). -/
def runsBroken (list : List (Fin 128)) (u : State) : State :=
  { u with watches := Vector.ofFn fun id => if id ∈ list then u.watches[id].map brokenRun else u.watches[id] }

/-- The state `u` with a begin report made to a line (R161, R163, R164). -/
def contributionBegun (line : Option (Fin 4)) (u : State) : State :=
  match line with
  | none => u
  | some a =>
    u.setAlarm a
      { u.alarms[a] with
        count := u.alarms[a].count + 1
        asserted := match u.alarms[a].mode with
          | .follow => true
          | .latch => u.alarms[a].asserted || u.alarms[a].count == 0 }

/-- The state `u` with an end report made to a line (R161, R163, R164). -/
def contributionEnded (line : Option (Fin 4)) (u : State) : State :=
  match line with
  | none => u
  | some a =>
    u.setAlarm a
      { u.alarms[a] with
        count := u.alarms[a].count - 1
        asserted := match u.alarms[a].mode with
          | .follow => decide (1 < u.alarms[a].count)
          | .latch => u.alarms[a].asserted }

/-- The event `e` is handed over where its watch's or stream's level is above 0 (R65, R124). -/
def HandedUnlessLevelZero (e : Event) (u t : State) : Prop := (e.level = 0 → t = u) ∧ (0 < e.level → EventHanded e u t)

/-- The changeable fields are in range (R84) and consistent for the kind (R85). -/
def GoodFields (kind : WatchKind) (p : WatchParams) : Prop :=
  p.level.toNat < 8 ∧ (1 ≤ p.na.toNat ∧ p.na.toNat ≤ 16) ∧ (1 ≤ p.nc.toNat ∧ p.nc.toNat ≤ 16) ∧ p.hysteresis.toNat ≤ 2147483647 ∧
    match kind with
    | .above => True
    | .below => p.lower.toInt ≤ p.upper.toInt
    | .outside => p.lower.toInt ≤ p.upper.toInt ∧ 2 * (p.hysteresis.toNat : Int) ≤ p.upper.toInt - p.lower.toInt
    | .step => 0 ≤ p.upper.toInt ∧ (p.hysteresis.toNat : Int) ≤ p.upper.toInt

/-- The static fields name a stream, a kind, a target and a line (R84). -/
def NamesStatics (p : WatchParams) (i : Fin 64) (kind : WatchKind) (n : Fin 4) (line : Option (Fin 4)) : Prop :=
  p.stream.toNat = i.val ∧ p.kind = kind.code ∧ p.target.toNat = n.val ∧ p.alarmLine = alarmLineByte line

end Sys2Proof.Machine
end

