-- ==== Sys2Proof/Certificates/Slice0/Obligations.lean ====
section
/-!
DEFINITION. The statements about the TS24. Each docstring names the rules it formalises; OBLIGATIONS.json lists them.
-/

open Sys2Proof Sys2Proof.Machine

/-! ## The block as a whole -/

/-- A step runs the command at the front of the queue on the state with the queue's rest, and the block idles on an empty queue (the
model's queue, log 3). -/
def Obligations.StepRunsTheFrontCommand : Prop :=
  (∀ c q s, s.pending = c :: q → step s = exec c (s.withPending q)) ∧ ∀ s, s.pending = [] → step s = .next s

/-- The state after reset meets every law that the steps keep. Some of these laws join clauses of the model's to the spec's law so that
every step keeps them. PinsLaw is about the model's own record of the pins: that the record is empty at reset is log 15's choice, and
ATTN_N high and the ALM pins low are R195's, R171's and R208's. -/
def Obligations.ResetMeetsEveryLaw : Prop :=
  AlarmLaw State.reset ∧ ContributionLaw State.reset ∧ WatchesLaw State.reset ∧ PoolLaw State.reset ∧ FloorsLaw State.reset ∧
    FaultLaw State.reset ∧ CommandPathLaw State.reset ∧ QuietLaw State.reset ∧ RingsLaw State.reset ∧ WatchListLaw State.reset ∧
    RingUsersLaw State.reset ∧ StreamsLaw State.reset ∧ EpochLaw State.reset ∧ PinsLaw State.reset

/-- No command changes the commands that wait behind it (the model's queue, log 3). -/
def Obligations.CommandsKeepTheQueue : Prop := ∀ i s t, exec i s = .next t → t.pending = s.pending

/-- The commands that stop: a row that completes an access stops exactly where the part has no such access on the host link, and
COMPLETION_DISCARDED exactly where the access it names is neither of an older epoch nor returning in FAULT (R17 to R21; the stops are the
model's, log 8). No command faults. -/
def Obligations.OnlyMissingAccessesStop : Prop :=
  ∀ i s,
    (∀ f, exec i s ≠ .fault f) ∧
    ((∀ r e, i ≠ .completionDiscarded r e) → rowRequester i = none → ∃ t, exec i s = .next t) ∧
    (∀ r, rowRequester i = some r →
      ((∃ t, exec i s = .next t) ↔ ∃ a, s.access r = some a ∧ a.phase = .onLink ∧ rowCompletes i a.payload = true) ∧
      ((∃ t, exec i s = .next t) ∨ exec i s = .refused .noSuchAccess)) ∧
    ∀ r e, i = .completionDiscarded r e →
      let older := ∃ x ∈ s.mau.stale, x.1 = r ∧ x.2.epoch = e
      let current := ∃ a, s.access r = some a ∧ a.phase = .onLink ∧ a.epoch = e
      ((∃ t, exec i s = .next t) ↔ older ∨ (current ∧ s.control.engine = .fault)) ∧
      (exec i s = .refused .notDiscarded ↔ ¬ older ∧ current ∧ s.control.engine ≠ .fault) ∧
      (exec i s = .refused .noSuchAccess ↔ ¬ older ∧ ¬ current)

/-- Every host command's row is what the command engine reads back from the 32 bytes of its command record (R201, R202): no field of a
command record is dropped. -/
def Obligations.CommandRecordRoundTrip : Prop :=
  ∀ i h q, i.request = some (h, q) → WellFormed i = true →
    let cmd := commandRecordOfBytes (recordOf h q).bytes
    cmd = recordOf h q ∧ rowOf { flags := cmd.flags, tag := cmd.tag, index := cmd.index } cmd.request = i

/-- The 32 bytes of a command record are its fields at their offsets (R201, R202), and a command fetch that brings them is the row of
the command they spell, but that the bytes are held as they came: bytes that a command does not use are ignored (R36, R37, R38;
bytes 6 and 7 are not held, log 23). -/
def Obligations.UnusedBytesAreIgnored : Prop :=
  (∀ bytes : Vector Byte 32,
    let cmd := commandRecordOfBytes bytes
    cmd.code.toNat = field bytes.toList 0 1 ∧ cmd.flags.toNat = field bytes.toList 1 1 ∧ cmd.tag.toNat = field bytes.toList 2 2 ∧
      cmd.index.toNat = field bytes.toList 4 2 ∧ cmd.params.toList = bytes.toList.drop 8 ∧
      cmd.request = requestFields bytes.toList) ∧
  ∀ bytes s, commandArrives s = true →
    let cmd := commandRecordOfBytes bytes
    ∃ t, exec (rowOf { flags := cmd.flags, tag := cmd.tag, index := cmd.index } cmd.request) s = .next t ∧
      exec (.commandFetchCompletion (.ok bytes)) s = .next { t with cmd := { t.cmd with held := some cmd } }

/-- The count of a ring is (producer index − consumer index) mod slots; the ring is empty when the indices are equal, and a written ring
has a free slot while its count is below slots − 1 (R3). -/
def Obligations.RingCountIsTheDifference : Prop :=
  ∀ d : Descriptor, d.producer < d.slots → d.consumer < d.slots →
    (d.count : Int) = ((d.producer : Int) - d.consumer) % d.slots ∧ (d.count = 0 ↔ d.producer = d.consumer) ∧
      (d.hasFreeSlot = true ↔ d.count < d.slots - 1) ∧ d.count ≤ d.slots - 1

/-- What the registers show: IDENT, CONTROL, STATUS, the setup address, FAULT, the failing address and the time registers at the bits and
with the codes of R207, each from its owner's state (R173, R174, R179, R194); POST and every other offset read 0; a read shows the bytes it
asks for (the other bytes are 0, log 13), and 0 while RST_N is asserted (R196). ATTN_N is low exactly while one of the conditions of R195
holds, ALM0 to ALM3 follow their lines (R162, R208), and an update of a ring or a line notes the change of its pin (log 15). -/
def Obligations.StatusShowsTheOwners : Prop :=
  [EngineState.idle, .loading, .run, .stopping, .stopped, .fault].map EngineState.code = [0, 1, 2, 3, 4, 5] ∧
  [CommandPhase.waiting, .fetching, .executing, .replying].map CommandPhase.code = [0, 1, 2, 3] ∧
  [FaultKind.noFault, .setupReadError, .setupInvalid, .commandReadError, .replyWriteError, .shadowWriteError, .commandPostInvalid,
    .replyPostInvalid].map FaultKind.code = [0, 1, 2, 3, 4, 5, 6, 7] ∧
  ∀ s : State,
    (attnPinHigh s = !attention s) ∧ (∀ a : Fin 4, almPinHigh a s = s.alarms[a].asserted) ∧
    (∀ d, AttentionNoted s (s.setReplyRing d)) ∧ (∀ n d, AttentionNoted s (s.setSampleRing n d)) ∧
    (∀ n d, AttentionNoted s (s.setEventRing n d)) ∧
    (∀ a l, (s.setAlarm a l).pinChanges =
      s.pinChanges ++ if l.asserted = s.alarms[a].asserted then [] else [{ pin := .alm a, high := l.asserted }]) ∧
    (attention s = true ↔
      s.rings.reply.attention = true ∨ (∃ n : Fin 4, s.rings.event[n].attention = true) ∨
        (∃ n : Fin 8, s.rings.sample[n].state = .faulted) ∨ (∃ n : Fin 4, s.rings.event[n].state = .faulted) ∨
        s.control.engine = .fault) ∧
    (s.control.rstAsserted = true → ∀ offset lanes, registerRead s offset lanes = 0) ∧
    (∀ offset lanes (k : Fin 32),
      (registerRead s offset lanes).getLsbD k = (lanes.getLsbD (k / 8) && (registerRead s offset 0xF).getLsbD k)) ∧
    (s.control.rstAsserted = false →
      registerRead s 0x00 0xF = 0x00027324 ∧
      registerRead s 0x10 0xF ++ registerRead s 0x0C 0xF = s.control.setupAddr ∧
      registerRead s 0x24 0xF = s.control.timeBase.extractLsb' 0 32 ∧
      registerRead s 0x28 0xF = s.control.timeCapture.setWidth 32 ∧
      registerRead s 0x04 0xF = BitVec.ofNat 32 s.control.engine.code ∧
      (let f := registerRead s 0x18 0xF
       f.extractLsb' 0 8 = BitVec.ofNat 8 s.control.faultKind.code ∧
       (s.control.furtherFaults ≤ 255 → f.extractLsb' 8 24 = BitVec.ofNat 24 s.control.furtherFaults)) ∧
      registerRead s 0x20 0xF ++ registerRead s 0x1C 0xF = s.control.faultAddr ∧
      (∀ offset, offset ∉ [0x00, 0x04, 0x08, 0x0C, 0x10, 0x18, 0x1C, 0x20, 0x24, 0x28] → registerRead s offset 0xF = 0) ∧
      let w := registerRead s 0x08 0xF
      w.extractLsb' 0 3 = BitVec.ofNat 3 s.control.engine.code ∧
      w.getLsbD 3 = s.control.heldStart ∧ w.getLsbD 4 = s.control.heldStop ∧
      w.extractLsb' 5 2 = BitVec.ofNat 2 s.cmd.phase.code ∧
      w.getLsbD 7 = s.rings.reply.attention ∧
      (∀ n : Fin 4, w.getLsbD (8 + n.val) = s.rings.event[n].attention) ∧
      (∀ n : Fin 8, w.getLsbD (12 + n.val) = decide (s.rings.sample[n].state = .faulted)) ∧
      (∀ n : Fin 4, w.getLsbD (20 + n.val) = decide (s.rings.event[n].state = .faulted)) ∧
      w.getLsbD 24 = attention s ∧
      ∀ k, 25 ≤ k → w.getLsbD k = false)

/-! ## Register writes and reads -/

/-- START and STOP in each engine state: the load, the held requests, the entry into RUN from STOPPED with what every block then starts,
and the entry into STOPPING (R175, R177, R180, R184, R186 to R188, R69). -/
def Obligations.StartAndStopCodes : Prop :=
  ∀ s : State, s.control.rstAsserted = false →
    (s.control.engine = .idle →
      exec .start s = .next ((s.setEngine .loading).setAccess commandRequester (handed s .setupRead s.control.setupAddr))) ∧
    (s.control.engine = .stopping → exec .start s = .next { s with control := { s.control with heldStart := true } }) ∧
    (s.control.engine = .stopped → ∃ t, exec .start s = .next t ∧ EntersRun s t) ∧
    (s.control.engine = .loading ∨ s.control.engine = .run ∨ s.control.engine = .fault → exec .start s = .next s) ∧
    (s.control.engine = .loading → exec .stop s = .next { s with control := { s.control with heldStop := true } }) ∧
    (s.control.engine = .run → ∃ t, exec .stop s = .next t ∧ StoppingEndChecked (s.setEngine .stopping) t) ∧
    (s.control.engine ≠ .loading → s.control.engine ≠ .run → exec .stop s = .next s)

/-- What a soft reset leaves in each block (R197, R20, R170), that ATTN_N is deasserted, and the pins that change. That the word read last
is kept is the model's (log 13), as the queue (log 3) and the record of the pins (log 15) are. -/
def Obligations.SoftResetValues : Prop :=
  ∀ s : State, s.control.rstAsserted = false →
    ∃ t, exec .reset s = .next t ∧
      t.control = { s.control with
        engine := .idle, heldStart := false, heldStop := false, faultKind := .noFault, faultAddr := 0, furtherFaults := 0 } ∧
      t.mau.epoch = s.mau.epoch + 1 ∧ t.mau.lastGranted = 14 ∧ (∀ r, t.access r = none) ∧
      (∀ x, x ∈ t.mau.stale ↔ x ∈ s.mau.stale ∨ (s.access x.1 = some x.2 ∧ x.2.phase = .onLink)) ∧
      t.rings = { RingManager.atReset with shadowAddr := s.rings.shadowAddr } ∧
      t.cmd = { phase := .waiting, held := none, reply := none } ∧
      (∀ i : Fin 64, t.streams[i] = Stream.atReset) ∧ (∀ id : Fin 128, t.watches[id] = none) ∧ t.pool = [] ∧
      (∀ n : Fin 4, t.delivery[n] = { baseFloor := 0, floorStack := [], lost := 0, owed := false }) ∧
      (∀ a : Fin 4, t.alarms[a].mode = s.alarms[a].mode ∧ t.alarms[a].count = 0 ∧
        (s.alarms[a].mode = .follow → t.alarms[a].asserted = false) ∧
        (s.alarms[a].mode = .latch → t.alarms[a].asserted = s.alarms[a].asserted)) ∧
      t.pinChanges = s.pinChanges ++ goneIdle (attention s) (fun a => s.alarms[a].asserted && s.alarms[a].mode == .follow) ∧
      t.readData = s.readData ∧ t.pending = s.pending ∧ attention t = false

/-- What the assertion of RST_N leaves in each block, the pins that change, and its release (R196, R20, R171); while it is asserted a tick
does not count. That the same holds of an assertion while RST_N is asserted already, epoch included, is the model's (log 17), and so are
the word read last (log 13), the queue (log 3) and the record of the pins (log 15). -/
def Obligations.HardwareResetValues : Prop :=
  (∀ s : State, ∃ t, exec .hardwareReset s = .next t ∧
    t.control = { State.reset.control with rstAsserted := true } ∧
    t.mau.epoch = s.mau.epoch + 1 ∧ t.mau.lastGranted = 14 ∧ (∀ r, t.access r = none) ∧
    (∀ x, x ∈ t.mau.stale ↔ x ∈ s.mau.stale ∨ (s.access x.1 = some x.2 ∧ x.2.phase = .onLink)) ∧
    t.rings = RingManager.atReset ∧ t.cmd = { phase := .waiting, held := none, reply := none } ∧
    (∀ i : Fin 64, t.streams[i] = Stream.atReset) ∧ (∀ id : Fin 128, t.watches[id] = none) ∧ t.pool = [] ∧
    (∀ n : Fin 4, t.delivery[n] = { baseFloor := 0, floorStack := [], lost := 0, owed := false }) ∧
    (∀ a : Fin 4, t.alarms[a] = { mode := .follow, asserted := false, count := 0 }) ∧
    t.pinChanges = s.pinChanges ++ goneIdle (attention s) (fun a => s.alarms[a].asserted) ∧
    t.readData = s.readData ∧ t.pending = s.pending ∧ attention t = false) ∧
  (∀ s : State, exec .rstNRelease s = .next { s with control := { s.control with rstAsserted := false } }) ∧
  ∀ s : State, s.control.rstAsserted = true → exec .timeBaseTick s = .next s

/-- SETUP_LO and SETUP_HI replace their halves of the setup address in IDLE, are ignored in every other state, and read back the half
held (R179). -/
def Obligations.SetupWritesInIdle : Prop :=
  ∀ (value : Word) (s : State), s.control.rstAsserted = false →
    (s.control.engine = .idle → ∃ t, exec (.setupLo value) s = .next t ∧
      t = { s with control := { s.control with setupAddr := t.control.setupAddr } } ∧
      registerRead t 0x0C 0xF = value ∧ registerRead t 0x10 0xF = registerRead s 0x10 0xF) ∧
    (s.control.engine = .idle → ∃ t, exec (.setupHi value) s = .next t ∧
      t = { s with control := { s.control with setupAddr := t.control.setupAddr } } ∧
      registerRead t 0x10 0xF = value ∧ registerRead t 0x0C 0xF = registerRead s 0x0C 0xF) ∧
    (s.control.engine ≠ .idle → exec (.setupLo value) s = .next s ∧ exec (.setupHi value) s = .next s)

/-- A write of fewer than four bytes, at an offset that is no writable register, or of a CONTROL word that is no code is ignored, and
every write is ignored while RST_N is asserted (R173, R175, R196). -/
def Obligations.IgnoredWritesChangeNothing : Prop :=
  (∀ offset lanes value s, WellFormed (.registerWriteIgnored offset lanes value) = true →
    exec (.registerWriteIgnored offset lanes value) s = .next s) ∧
  ∀ s : State, s.control.rstAsserted = true → ∀ value,
    exec .start s = .next s ∧ exec .stop s = .next s ∧ exec .reset s = .next s ∧ exec (.setupLo value) s = .next s ∧
      exec (.setupHi value) s = .next s ∧ exec (.producerPost value) s = .next s ∧ exec (.consumerPost value) s = .next s

/-- A read of any bytes of TIME_LO returns them and captures the upper 16 bits of the time base, which TIME_HI then shows; nothing else
changes (R194). A read while RST_N is asserted returns 0 and captures nothing (R196). That the other bytes of the word read last are 0 is
the model's (log 13). -/
def Obligations.TimeLoReadCaptures : Prop :=
  ∀ (lanes : BitVec 4) (s : State),
    (s.control.rstAsserted = false → lanes ≠ 0 →
      ∃ t, exec (.timeLoRead lanes) s = .next t ∧
        t = { s with
          readData := t.readData
          control := { s.control with timeCapture := s.control.timeBase.extractLsb' 32 16 } } ∧
        (∀ k : Fin 32, t.readData.getLsbD k.val = (lanes.getLsbD (k.val / 8) && s.control.timeBase.getLsbD k.val)) ∧
        registerRead t 0x28 0xF = (s.control.timeBase.extractLsb' 32 16).setWidth 32) ∧
    (s.control.rstAsserted = true → exec (.timeLoRead lanes) s = .next { s with readData := 0 })

/-- A producer post is discarded, recorded or invalid, by the engine state, the ring's state and the check of R7; an invalid one faults
an OPEN sample ring, or the engine (R7, R9, R54, R34). -/
def Obligations.ProducerPostSorted : Prop :=
  ∀ (word : Word) (s : State), s.control.rstAsserted = false →
    let i := word.toNat % 4096
    let selector := word.toNat / 4096 % 16
    (s.control.engine = .idle ∨ s.control.engine = .loading ∨ 14 ≤ selector → exec (.producerPost word) s = .next s) ∧
    (s.control.engine ≠ .idle → s.control.engine ≠ .loading → selector = 0 →
      let d := s.rings.command
      let valid := i < d.slots ∧ d.count ≤ ringDiff d.slots i d.consumer
      (d.state = .closed → exec (.producerPost word) s = .next s) ∧
      (d.state ≠ .closed → valid →
        ∃ t, exec (.producerPost word) s = .next t ∧ CommandFetchChecked (s.setCommandRing { d with producer := i }) t) ∧
      (d.state ≠ .closed → ¬ valid → ∃ t, exec (.producerPost word) s = .next t ∧ FaultReported .commandPostInvalid 0 s t)) ∧
    (s.control.engine ≠ .idle → s.control.engine ≠ .loading → ∀ n : Fin 8, selector = n.val + 2 →
      let r := s.rings.sample[n]
      let valid := i < r.slots ∧ r.count ≤ ringDiff r.slots i r.consumer
      (r.state = .closed → exec (.producerPost word) s = .next s) ∧
      (r.state ≠ .closed → valid →
        ∃ t, exec (.producerPost word) s = .next t ∧ SampleFetchChecked n (s.setSampleRing n { r with producer := i }) t) ∧
      (r.state = .opened → ¬ valid →
        exec (.producerPost word) s = .next (s.setSampleRing n { r with state := .faulted, cause := .badPost })) ∧
      (r.state = .faulted → ¬ valid → exec (.producerPost word) s = .next s))

/-- A consumer post is discarded, recorded or invalid, by the engine state, the ring's state and the check of R8; a valid one that empties
the ring clears its attention flag (R8, R9, R11, R34, R142). -/
def Obligations.ConsumerPostSorted : Prop :=
  ∀ (word : Word) (s : State), s.control.rstAsserted = false →
    let i := word.toNat % 4096
    let selector := word.toNat / 4096 % 16
    (s.control.engine = .idle ∨ s.control.engine = .loading → exec (.consumerPost word) s = .next s) ∧
    (s.control.engine ≠ .idle → s.control.engine ≠ .loading → selector = 1 →
      let r := s.rings.reply
      let valid := i < r.slots ∧ ringDiff r.slots i r.consumer ≤ ringDiff r.slots r.producer r.consumer
      (r.state = .closed → exec (.consumerPost word) s = .next s) ∧
      (r.state ≠ .closed → valid → ∃ t, exec (.consumerPost word) s = .next t ∧
        CommandFetchChecked
          (s.setReplyRing { r with consumer := i, attention := if i = r.producer then false else r.attention }) t) ∧
      (r.state ≠ .closed → ¬ valid → ∃ t, exec (.consumerPost word) s = .next t ∧ FaultReported .replyPostInvalid 0 s t)) ∧
    (s.control.engine ≠ .idle → s.control.engine ≠ .loading → ∀ n : Fin 4, selector = n.val + 10 →
      let r := s.rings.event[n]
      let valid := i < r.slots ∧ ringDiff r.slots i r.consumer ≤ ringDiff r.slots r.producer r.consumer
      (r.state = .closed → exec (.consumerPost word) s = .next s) ∧
      (r.state ≠ .closed → valid → ∃ t, exec (.consumerPost word) s = .next t ∧
        WriterChecked n
          (s.setEventRing n { r with consumer := i, attention := if i = r.producer then false else r.attention }) t) ∧
      (r.state = .opened → ¬ valid →
        exec (.consumerPost word) s = .next (s.setEventRing n { r with state := .faulted, cause := .badPost })) ∧
      (r.state = .faulted → ¬ valid → exec (.consumerPost word) s = .next s))

/-! ## Time -/

/-- A tick of the time base is the SILENCE_EXPIRY of every stream whose expiry is due, one after another, followed by the advance of the
count by 1, in every engine state (R193, R64 to R66). That due expiries fall at the tick, before the count, and that several fall in
ascending stream id are the model's (log 5). -/
def Obligations.TimeBaseTickCounts : Prop :=
  ∀ s : State, s.control.rstAsserted = false →
    let due := fun i : Fin 64 =>
      s.control.engine = .run ∧ (s.streams[i].state = .bound ∨ s.streams[i].state = .live) ∧
        s.streams[i].deadline = some s.control.timeBase
    ∃ t, exec .timeBaseTick s = .next t ∧
      t.control = { s.control with timeBase := s.control.timeBase + 1 } ∧ t.rings = s.rings ∧ t.cmd = s.cmd ∧
      t.readData = s.readData ∧ t.pending = s.pending ∧
      (∀ i : Fin 64, due i →
        t.streams[i] = { s.streams[i] with state := .silent, deadline := none, held := false }) ∧
      (∀ i : Fin 64, ¬ due i → t.streams[i] = s.streams[i]) ∧
      (∃ (order : List (Fin 64)) (v : State), order.Pairwise (· < ·) ∧ (∀ i, i ∈ order ↔ due i) ∧ ExpiriesTaken order s v ∧
        t = { v with control := { v.control with timeBase := s.control.timeBase + 1 } }) ∧
      (∀ i : Fin 64, due i → (∀ j, j ≠ i → ¬ due j) →
        ∃ v, exec (.silenceExpiry i) s = .next v ∧
          t = { v with control := { v.control with timeBase := s.control.timeBase + 1 } }) ∧
      ((∀ i : Fin 64, ¬ due i) → t = { s with control := { s.control with timeBase := s.control.timeBase + 1 } })

/-- A silence expiry: SILENT, the STREAM_SILENT event, and the substitute (R64, R65, R66); that the row changes nothing where the expiry
is not due is the model's (log 6). -/
def Obligations.SilenceExpiryEffect : Prop :=
  ∀ (i : Fin 64) (s : State),
    let x := s.streams[i]
    let due := s.control.engine = .run ∧ (x.state = .bound ∨ x.state = .live) ∧ x.deadline = some s.control.timeBase
    (¬ due → exec (.silenceExpiry i) s = .next s) ∧
    (due → ∃ v t, exec (.silenceExpiry i) s = .next t ∧
      HandedUnlessLevelZero
        { source := .stream i, kind := .streamSilent, target := x.eventRing, level := x.level, hold := false, stream := i,
          value := x.lastValue, sequence := x.baseline.getD 0, time := s.control.timeBase, fallback := false }
        (s.setStream i { x with state := .silent, deadline := none, held := false }) v ∧
      (x.fallback = none → t = v) ∧
      ∀ y, x.fallback = some y →
        t = evaluate
          { substitute := true, stream := i, value := y, sequence := x.baseline.getD 0, time := s.control.timeBase,
            previous := none } v)

/-! ## The host link -/

/-- The grant goes to the first waiting requester after the last one granted, counting upward and continuing from 14 to 0; none is given
in FAULT (R18, R21). That a grant is an event of its own, and that its row changes nothing where no access waits, are the model's reading
(log 7). -/
def Obligations.GrantInRotatingOrder : Prop :=
  ∀ s : State,
    (s.control.engine = .fault → exec .memoryAccessGrant s = .next s) ∧
    ((∀ r a, s.access r = some a → a.phase ≠ .waiting) → exec .memoryAccessGrant s = .next s) ∧
    (s.control.engine ≠ .fault → ∀ (j : Nat) (r : Requester) (a : Access), j < 15 →
      r.val = (s.mau.lastGranted.val + 1 + j) % 15 → s.access r = some a → a.phase = .waiting →
      (∀ (k : Nat) (q : Requester) (b : Access), k < j → q.val = (s.mau.lastGranted.val + 1 + k) % 15 → s.access q = some b →
        b.phase ≠ .waiting) →
      exec .memoryAccessGrant s = .next { s with
        mau := { s.mau with
          inFlight := s.mau.inFlight.set r (some { a with phase := .onLink })
          lastGranted := r } })

/-- The setup read: an error or a block that fails the checks faults the engine; a valid block, with its fields at the offsets of R200,
opens the command and reply rings and takes the engine to RUN, or to STOPPED with a held STOP (R181 to R184). -/
def Obligations.SetupReadEndsTheLoad : Prop :=
  ∀ (a : Access) (s : State), Returns commandRequester a s → a.payload = .setupRead →
    let u := s.setAccess commandRequester none
    (∃ t, exec (.setupReadCompletion .accessError) s = .next t ∧ FaultReported .setupReadError a.address u t) ∧
    ∀ bytes : Vector Byte 28,
      let b := setupFields bytes.toList
      let good := GoodGeometry 8 1024 b.commandBase b.commandSlots.toNat ∧ GoodGeometry 8 1024 b.replyBase b.replySlots.toNat ∧
        8 ∣ b.shadowAddr.toNat
      let command : Descriptor :=
        { state := .opened, base := b.commandBase, slots := b.commandSlots.toNat, producer := 0, consumer := 0 }
      let reply : ReplyRing :=
        { state := .opened, base := b.replyBase, slots := b.replySlots.toNat, producer := 0, consumer := 0, lap := true,
          attention := false }
      let v := ({ u with rings := { u.rings with command := command, shadowAddr := b.shadowAddr } }).setReplyRing reply
      (¬ good → ∃ t, exec (.setupReadCompletion (.ok bytes)) s = .next t ∧ FaultReported .setupInvalid 0 u t) ∧
      (good → s.control.heldStop = true → exec (.setupReadCompletion (.ok bytes)) s = .next { v with
        control := { v.control with heldStop := false, engine := .stopped } }) ∧
      (good → s.control.heldStop = false → ∃ w t, exec (.setupReadCompletion (.ok bytes)) s = .next t ∧
        CommandFetchChecked (v.setEngine .run) w ∧ SampleFetchesChecked w t)

/-- The accesses of the command path and of the shadow area: the bytes that a reply write and a shadow write carry (R203, R206), a completed
reply write, a completed shadow write, which frees requester 0 for the owed one, and the engine fault that the error of a command fetch, a
reply write or a shadow write makes (R43, R46, R47, R15, R16, R10, R11). -/
def Obligations.CommandPathCompletions : Prop :=
  (∀ r : ReplyRecord, SpellsReply r (Payload.replyWrite r).bytes) ∧
  (∀ indices : List Nat, indices.length = 9 → SpellsShadow indices (Payload.shadowWrite indices).bytes) ∧
  ∀ (a : Access) (s : State),
    (Returns replyRequester a s → (∃ r, a.payload = .replyWrite r) →
      let r := s.rings.reply
      let u := (s.setAccess replyRequester none).setCmd { phase := .waiting, held := none, reply := none }
      (∃ v t, exec (.replyWriteCompletion (.ok ())) s = .next t ∧
        CommandFetchChecked
          (u.setReplyRing
            { r with
              producer := (r.producer + 1) % r.slots
              lap := if r.producer + 1 = r.slots then !r.lap else r.lap
              attention := true }) v ∧
        StoppingEndChecked v t) ∧
      ∃ t, exec (.replyWriteCompletion .accessError) s = .next t ∧ FaultReported .replyWriteError a.address u t) ∧
    (Returns commandRequester a s → a.payload = .commandFetch →
      ∃ t, exec (.commandFetchCompletion .accessError) s = .next t ∧
        FaultReported .commandReadError a.address
          ((s.setAccess commandRequester none).setCmd { phase := .waiting, held := none, reply := none }) t) ∧
    (Returns shadowRequester a s → (∃ l, a.payload = .shadowWrite l) →
      (∃ v t, exec (.shadowWriteCompletion (.ok ())) s = .next t ∧ ShadowChecked (s.setAccess shadowRequester none) v ∧
        StoppingEndChecked v t) ∧
      ∃ t, exec (.shadowWriteCompletion .accessError) s = .next t ∧
        FaultReported .shadowWriteError a.address (s.setAccess shadowRequester none) t)

/-- A sample fetch that no command waits for: on an OPEN ring its records, with their fields at the offsets of R204, are processed one by
one in ring order and the consumer index advances, on a ring that is not OPEN they are discarded, and an error faults an OPEN ring; the next
fetch, the owed shadow write and the end of STOPPING follow (R22, R23, R54, R55, R14, R5). -/
def Obligations.SampleFetchCompletes : Prop :=
  ∀ (n : Fin 8) (a : Access) (s : State), Returns (sampleRequester n) a s → ¬ sampleCommandWaits n s →
    let u := s.setAccess (sampleRequester n) none
    let r := s.rings.sample[n]
    let follows := fun (y t : State) =>
      ∃ v w, SampleFetchChecked n y v ∧ ShadowChecked v w ∧ StoppingEndChecked w t
    (∀ records : List (Vector Byte 8), a.payload = .sampleFetch records.length →
      (r.state = .opened →
        let p := (records.map fun b => sampleFields b.toList).foldl (fun y x => processRecord n x y) u
        ∃ t, exec (.sampleFetchCompletion n (.ok records)) s = .next t ∧
          follows
            ((p.setSampleRing n
              { p.rings.sample[n] with
                consumer := (p.rings.sample[n].consumer + records.length) % p.rings.sample[n].slots }).setShadowOwed true) t) ∧
      (r.state ≠ .opened → ∃ t, exec (.sampleFetchCompletion n (.ok records)) s = .next t ∧ follows u t)) ∧
    ((∃ k, a.payload = .sampleFetch k) →
      (r.state = .opened → ∃ t, exec (.sampleFetchCompletion n .accessError) s = .next t ∧
        follows (u.setSampleRing n { r with state := .faulted, cause := .accessError }) t) ∧
      (r.state ≠ .opened → ∃ t, exec (.sampleFetchCompletion n .accessError) s = .next t ∧ follows u t))

/-- A write to an event ring that no command waits for ends: the ring side, the hold push, the loss or the settled overrun, and then the
ring's writer and the end of STOPPING (R24, R147 to R150). That the lost count of any state falls by a truncated difference is log
22. -/
def Obligations.EventWritesComplete : Prop :=
  ∀ (n : Fin 4) (a : Access) (s : State), Returns (eventRequester n) a s → ¬ eventCommandWaits n s →
    let u := s.setAccess (eventRequester n) none
    let follows := fun (y t : State) => ∃ v, WriterChecked n y v ∧ StoppingEndChecked v t
    (∀ lap e, a.payload = .eventWrite (.entry lap e) →
      (∃ t, exec (.eventWriteCompletion n (.ok ())) s = .next t ∧ follows (writeEnded n (.entry lap e) true u) t) ∧
      ∃ t, exec (.eventWriteCompletion n .accessError) s = .next t ∧ follows (writeEnded n (.entry lap e) false u) t) ∧
    ∀ lap k time, a.payload = .eventWrite (.overrun lap k time) →
      (∃ t, exec (.overrunWriteCompletion n (.ok ())) s = .next t ∧ follows (writeEnded n (.overrun lap k time) true u) t) ∧
      ∃ t, exec (.overrunWriteCompletion n .accessError) s = .next t ∧ follows (writeEnded n (.overrun lap k time) false u) t

/-- A sample ring command that waits resumes at the end of the fetch, whose records are discarded and whose error faults an OPEN ring
first: a close on any ring that is not CLOSED, an open on a FAULTED ring (R23, R25, R26, R39). -/
def Obligations.WaitingSampleCommandsResume : Prop :=
  ∀ (n : Fin 8) (a : Access) (s : State) (rec : CommandRecord) (result : Completion (List (Vector Byte 8))),
    Returns (sampleRequester n) a s → rowCompletes (.sampleFetchCompletion n result) a.payload = true →
    let r : SampleRing := s.rings.sample[n]
    let u : State := match result with
      | .ok _ => s.setAccess (sampleRequester n) none
      | .accessError =>
        (s.setAccess (sampleRequester n) none).setSampleRing n
          (if r.state = .opened then { r with state := .faulted, cause := .accessError } else r)
    let row := Instr.sampleFetchCompletion n result
    (waitsWith n.val .closeSampleRing rec s →
      Answers row s rec .ok { w0 := packed [(0, 32, r.count)], w1 := packed [(0, 32, r.unrouted)] }
        (u.setSampleRing n { r with state := .closed, cause := .noCause })) ∧
    (∀ base slots, waitsWith n.val (.openSampleRing base slots) rec s → r.state = .faulted →
      Answers row s rec .ok {}
        ((u.setSampleRing n
          { state := .opened, base := base, slots := slots.toNat, producer := 0, consumer := 0, cause := .noCause,
            unrouted := 0 }).setShadowOwed true))

/-- An event ring command that waits resumes at the end of the write, which is handled first: a close reports the unconsumed and the lost
count, an open of a FAULTED ring keeps the delivery state (R28, R29, R39, R156, R157). That the command goes on before the ring's writer
checks its conditions, once, is the model's reading (log 10). -/
def Obligations.WaitingEventCommandsResume : Prop :=
  ∀ (n : Fin 4) (a : Access) (s : State) (rec : CommandRecord) (e : EventRecord) (ok : Bool),
    Returns (eventRequester n) a s → a.payload = .eventWrite e →
    let result : Completion Unit := if ok then .ok () else .accessError
    let row := match e with
      | .entry _ _ => Instr.eventWriteCompletion n result
      | .overrun _ _ _ => Instr.overrunWriteCompletion n result
    let u := writeEnded n e ok (s.setAccess (eventRequester n) none)
    let r := u.rings.event[n]
    (waitsWith n.val .closeEventRing rec s →
      exec row s = .next
        (replied rec .ok { w0 := packed [(0, 32, r.count)], w1 := packed [(0, 32, u.delivery[n].lost)] }
          ((u.setEventRing n { r with state := .closed, cause := .noCause, attention := false }).setDelivery n
            { baseFloor := 0, floorStack := [], lost := 0, owed := false }))) ∧
    (∀ base slots notify floor (l : Level), waitsWith n.val (.openEventRing base slots notify floor) rec s →
      s.rings.event[n].state = .faulted → notify.toNat = l.val → floor.toNat < 8 →
      ∃ v, exec row s = .next (replied rec .ok {} v) ∧
        WriterChecked n
          (u.setEventRing n
            { state := .opened, base := base, slots := slots.toNat, producer := 0, consumer := 0, cause := .noCause, lap := true,
              attention := false, notify := l }) v)

/-- A completion of an older epoch reaches no block, and neither does one that arrives in FAULT, whatever its row: only the link's own
bookkeeping changes (R20, R21, R151). That the access which returned in FAULT stays in flight as returned is log 24. -/
def Obligations.DiscardedCompletionsReachNoBlock : Prop :=
  (∀ (r : Requester) (epoch : Nat) (s : State) older x newer, s.mau.stale = older ++ x :: newer → x.1 = r → x.2.epoch = epoch →
    (∀ y ∈ older, ¬ (y.1 = r ∧ y.2.epoch = epoch)) →
    exec (.completionDiscarded r epoch) s = .next { s with mau := { s.mau with stale := older ++ newer } }) ∧
  ∀ (r : Requester) (a : Access) (s : State), s.access r = some a → a.phase = .onLink → s.control.engine = .fault →
    ((∀ y ∈ s.mau.stale, ¬ (y.1 = r ∧ y.2.epoch = a.epoch)) →
      exec (.completionDiscarded r a.epoch) s = .next (s.setAccess r (some { a with phase := .returned }))) ∧
    ∀ i, rowRequester i = some r → rowCompletes i a.payload = true →
      exec i s = .next (s.setAccess r (some { a with phase := .returned }))

/-! ## Host commands -/

/-- NOP changes nothing and is answered OK; a code that names no command is answered UNKNOWN_COMMAND (R41, R37). -/
def Obligations.NopAndUnknownCommand : Prop :=
  ∀ s : State, commandArrives s = true →
    (∀ h, Answers (.nop h) s (recordOf h .nop) .ok {} (taken (recordOf h .nop) s)) ∧
    (∀ code h, code ∉ commandCodes → Refuses (.unknownCommand code h) s (recordOf h (.unknown code)) .unknownCommand) ∧
    ∀ bytes, let cmd := commandRecordOfBytes bytes
      (cmd.code = 0 → Answers (.commandFetchCompletion (.ok bytes)) s cmd .ok {} (taken cmd s)) ∧
      (cmd.code ∉ commandCodes → Refuses (.commandFetchCompletion (.ok bytes)) s cmd .unknownCommand)

/-- OPEN_SAMPLE_RING: its checks in order, the wait on a FAULTED ring with a fetch in flight, and the ring it opens (R25, R14, R40). That
the shadow write it owes is issued at the end of this event is log 11. -/
def Obligations.OpenSampleRing : Prop :=
  ∀ (h : CmdHeader) (base : Addr) (slots : BitVec 16) (s : State), commandArrives s = true →
    let cmd := recordOf h (.openSampleRing base slots)
    let row := Instr.openSampleRing h base slots
    let good := GoodGeometry 16 4096 base slots.toNat
    (8 ≤ h.index.toNat → Refuses row s cmd .badArgument) ∧
    ∀ n : Fin 8, h.index.toNat = n.val →
      let r := s.rings.sample[n]
      (r.state = .opened → Refuses row s cmd .wrongState) ∧
      (r.state ≠ .opened → ¬ good → Refuses row s cmd .badArgument) ∧
      (r.state = .faulted → good → s.access (sampleRequester n) ≠ none → Waits row s cmd) ∧
      (r.state ≠ .opened → good → (r.state = .closed ∨ s.access (sampleRequester n) = none) →
        Answers row s cmd .ok {}
          ((taken cmd s).setSampleRing n
            { state := .opened, base := base, slots := slots.toNat, producer := 0, consumer := 0, cause := .noCause, unrouted := 0 }))

/-- CLOSE_SAMPLE_RING: its checks in order, the wait for a fetch in flight, and the counts it reports (R26, R75, R40). -/
def Obligations.CloseSampleRing : Prop :=
  ∀ (h : CmdHeader) (s : State), commandArrives s = true →
    let cmd := recordOf h .closeSampleRing
    let row := Instr.closeSampleRing h
    (8 ≤ h.index.toNat → Refuses row s cmd .badArgument) ∧
    ∀ n : Fin 8, h.index.toNat = n.val →
      let r := s.rings.sample[n]
      let used := ∃ i : Fin 64, s.streams[i].state ≠ .unbound ∧ s.streams[i].sampleRing = n
      (r.state = .closed → Refuses row s cmd .wrongState) ∧
      (r.state ≠ .closed → used → Refuses row s cmd .inUse) ∧
      (r.state ≠ .closed → ¬ used → s.access (sampleRequester n) ≠ none → Waits row s cmd) ∧
      (r.state ≠ .closed → ¬ used → s.access (sampleRequester n) = none →
        Answers row s cmd .ok { w0 := packed [(0, 32, r.count)], w1 := packed [(0, 32, r.unrouted)] }
          ((taken cmd s).setSampleRing n { r with state := .closed, cause := .noCause }))

/-- OPEN_EVENT_RING: its checks in order, the wait, the fresh delivery state from CLOSED and the kept one from FAULTED, and the writer's
check (R28, R156, R157, R142, R40). -/
def Obligations.OpenEventRing : Prop :=
  ∀ (h : CmdHeader) (base : Addr) (slots : BitVec 16) (notify floor : Byte) (s : State), commandArrives s = true →
    let cmd := recordOf h (.openEventRing base slots notify floor)
    let row := Instr.openEventRing h base slots notify floor
    let good := GoodGeometry 8 1024 base slots.toNat ∧ notify.toNat < 8 ∧ floor.toNat < 8
    (4 ≤ h.index.toNat → Refuses row s cmd .badArgument) ∧
    ∀ n : Fin 4, h.index.toNat = n.val →
      let r := s.rings.event[n]
      (r.state = .opened → Refuses row s cmd .wrongState) ∧
      (r.state ≠ .opened → ¬ good → Refuses row s cmd .badArgument) ∧
      (r.state = .faulted → good → s.access (eventRequester n) ≠ none → Waits row s cmd) ∧
      ∀ l f : Level, notify.toNat = l.val → floor.toNat = f.val → GoodGeometry 8 1024 base slots.toNat →
        let u := (taken cmd s).setEventRing n
          { state := .opened, base := base, slots := slots.toNat, producer := 0, consumer := 0, cause := .noCause, lap := true,
            attention := false, notify := l }
        (r.state = .closed → ∃ v, Answers row s cmd .ok {} v ∧
          WriterChecked n (u.setDelivery n { baseFloor := f, floorStack := [], lost := 0, owed := false }) v) ∧
        (r.state = .faulted → s.access (eventRequester n) = none → ∃ v, Answers row s cmd .ok {} v ∧ WriterChecked n u v)

/-- CLOSE_EVENT_RING: its checks in order, the wait for a write in flight, the counts it reports, and the delivery state it discards (R29,
R75, R98, R157, R40). -/
def Obligations.CloseEventRing : Prop :=
  ∀ (h : CmdHeader) (s : State), commandArrives s = true →
    let cmd := recordOf h .closeEventRing
    let row := Instr.closeEventRing h
    (4 ≤ h.index.toNat → Refuses row s cmd .badArgument) ∧
    ∀ n : Fin 4, h.index.toNat = n.val →
      let r := s.rings.event[n]
      let used := (∃ (id : Fin 128) (w : Watch), s.watches[id] = some w ∧ w.target = n) ∨
        ∃ i : Fin 64, s.streams[i].state ≠ .unbound ∧ s.streams[i].eventRing = n
      (r.state = .closed → Refuses row s cmd .wrongState) ∧
      (r.state ≠ .closed → used → Refuses row s cmd .inUse) ∧
      (r.state ≠ .closed → ¬ used → s.access (eventRequester n) ≠ none → Waits row s cmd) ∧
      (r.state ≠ .closed → ¬ used → s.access (eventRequester n) = none →
        Answers row s cmd .ok { w0 := packed [(0, 32, r.count)], w1 := packed [(0, 32, s.delivery[n].lost)] }
          (((taken cmd s).setEventRing n { r with state := .closed, cause := .noCause, attention := false }).setDelivery n
            { baseFloor := 0, floorStack := [], lost := 0, owed := false }))

/-- The three query commands report the fields of R203 at their bits, with the codes of R203, and change nothing but the counts that the
clear flag clears (R30, R74, R97, R139, R40). -/
def Obligations.QueriesReport : Prop :=
  [RingState.closed, .opened, .faulted].map RingState.code = [0, 1, 2] ∧
  [RingCause.noCause, .badPost, .accessError].map RingCause.code = [0, 1, 2] ∧
  [StreamState.unbound, .bound, .live, .silent].map StreamState.code = [0, 1, 2, 3] ∧
  [WatchState.disarmed, .clear, .pendingAssert, .asserted, .pendingClear, .held].map WatchState.code = [0, 1, 2, 3, 4, 5] ∧
  [WatchKind.above, .below, .outside, .step].map WatchKind.code = [1, 2, 3, 4] ∧
  [AlarmMode.follow, .latch].map AlarmMode.code = [0, 1] ∧
  alarmLineByte none = 0xFF ∧ (∀ a : Fin 4, (alarmLineByte (some a)).toNat = a.val) ∧
  ∀ (h : CmdHeader) (s : State), commandArrives s = true →
    (let cmd := recordOf h .queryRing
     let row := Instr.queryRing h
     (14 ≤ h.index.toNat → Refuses row s cmd .badArgument) ∧
     (h.index.toNat = 0 →
       let d := s.rings.command
       Answers row s cmd .ok
         { w0 := packed [(0, 8, d.state.code.toNat)]
           w1 := packed [(0, 16, d.producer), (16, 16, (d.consumer + 1) % d.slots)]
           w3 := packed [(0, 16, d.slots)] } (taken cmd s)) ∧
     (h.index.toNat = 1 →
       let d := s.rings.reply
       Answers row s cmd .ok
         { w0 := packed [(0, 8, d.state.code.toNat)]
           w1 := packed [(0, 16, d.producer), (16, 16, d.consumer)]
           w3 := packed [(0, 16, d.slots)] } (taken cmd s)) ∧
     (∀ n : Fin 8, h.index.toNat = n.val + 2 →
       let r := s.rings.sample[n]
       Answers row s cmd .ok
         { w0 := packed [(0, 8, r.state.code.toNat), (8, 8, r.cause.code.toNat)]
           w1 := packed [(0, 16, r.producer), (16, 16, r.consumer)]
           w2 := packed [(0, 16, r.unrouted)]
           w3 := packed [(0, 16, r.slots)] }
         (if h.flags.getLsbD 0 then (taken cmd s).setSampleRing n { r with unrouted := 0 } else taken cmd s)) ∧
     (∀ n : Fin 4, h.index.toNat = n.val + 10 →
       let r := s.rings.event[n]
       let d := s.delivery[n]
       Answers row s cmd .ok
         { w0 := packed [(0, 8, r.state.code.toNat), (8, 8, r.cause.code.toNat)]
           w1 := packed [(0, 16, r.producer), (16, 16, r.consumer)]
           w2 := packed
             [(0, 8, d.currentFloor.val), (8, 8, d.floorStack.length), (16, 8, (pendingOrder n s.pool).length),
              (24, 1, d.owed.toNat)]
           w3 := packed [(0, 16, d.lost)] } (taken cmd s))) ∧
    (let cmd := recordOf h .queryStream
     let row := Instr.queryStream h
     (64 ≤ h.index.toNat → Refuses row s cmd .badArgument) ∧
     ∀ i : Fin 64, h.index.toNat = i.val →
       let x := s.streams[i]
       Answers row s cmd .ok
         { w0 := packed
             [(0, 8, x.state.code.toNat), (8, 1, x.baseline.isSome.toNat), (9, 1, x.held.toNat), (16, 16, (x.baseline.getD 0).toNat)]
           w1 := x.lastValue
           w2 := packed [(0, 16, x.missing), (16, 16, x.stale)]
           w3 := packed [(0, 16, x.bad), (16, 16, x.heldCount)] }
         (if h.flags.getLsbD 0 then
            (taken cmd s).setStream i { x with missing := 0, stale := 0, bad := 0, heldCount := 0 }
          else taken cmd s)) ∧
    (let cmd := recordOf h .queryWatch
     let row := Instr.queryWatch h
     (128 ≤ h.index.toNat → Refuses row s cmd .badArgument) ∧
     ∀ id : Fin 128, h.index.toNat = id.val →
       (s.watches[id] = none → Refuses row s cmd .notFound) ∧
       ∀ w, s.watches[id] = some w →
         Answers row s cmd .ok
           { w0 := packed
               [(0, 8, w.state.code.toNat), (8, 4, w.runCounter), (12, 1, w.acknowledged.toNat),
                (13, 1, (s.pool.any fun e => e.source == .watch id).toNat), (14, 1, w.lastEvaluated.isSome.toNat), (16, 3, w.level.val)]
             w1 := w.lastEvaluated.getD 0
             w2 := packed [(0, 16, w.assertCount)]
             w3 := packed
               [(0, 8, w.stream.val), (8, 8, w.kind.code.toNat), (16, 8, w.target.val), (24, 8, (alarmLineByte w.alarmLine).toNat)] }
           (taken cmd s))

/-- BIND_STREAM and UNBIND_STREAM: their checks in order, the entry a bind makes, the withdrawal of the pending STREAM_SILENT entry, and the
fields an unbind keeps (R70, R71, R51, R63, R137, R40). -/
def Obligations.BindAndUnbindStream : Prop :=
  (∀ (h : CmdHeader) (p : BindParams) (s : State), commandArrives s = true →
    let cmd := recordOf h (.bindStream p)
    let row := Instr.bindStream h p
    let good := p.sampleRing.toNat < 8 ∧ p.eventRing.toNat < 4 ∧ p.level.toNat < 8 ∧ p.fallbackPresent.toNat ≤ 1
    (64 ≤ h.index.toNat → Refuses row s cmd .badArgument) ∧
    ∀ i : Fin 64, h.index.toNat = i.val →
      (s.streams[i].state ≠ .unbound → Refuses row s cmd .wrongState) ∧
      (s.streams[i].state = .unbound → ¬ good → Refuses row s cmd .badArgument) ∧
      ∀ (n : Fin 8) (e : Fin 4) (l : Level), s.streams[i].state = .unbound → p.fallbackPresent.toNat ≤ 1 →
        p.sampleRing.toNat = n.val → p.eventRing.toNat = e.val → p.level.toNat = l.val →
        (s.rings.sample[n].state = .closed ∨ s.rings.event[e].state = .closed → Refuses row s cmd .wrongState) ∧
        (s.rings.sample[n].state ≠ .closed → s.rings.event[e].state ≠ .closed →
          Answers row s cmd .ok {}
            ((taken cmd s).setStream i
              { Stream.atReset with
                state := .bound
                sampleRing := n
                eventRing := e
                level := l
                timeout := p.timeout
                fallback := if p.fallbackPresent = 1 then some p.fallback else none
                deadline := if p.timeout = 0 then none
                  else some (s.control.timeBase + BitVec.ofNat 48 (p.timeout.toNat * 1000)) }))) ∧
  ∀ (h : CmdHeader) (s : State), commandArrives s = true →
    let cmd := recordOf h .unbindStream
    let row := Instr.unbindStream h
    (64 ≤ h.index.toNat → Refuses row s cmd .badArgument) ∧
    ∀ i : Fin 64, h.index.toNat = i.val →
      let x := s.streams[i]
      (x.state = .unbound → Refuses row s cmd .notFound) ∧
      (x.state ≠ .unbound → x.watchList ≠ [] → Refuses row s cmd .inUse) ∧
      (x.state ≠ .unbound → x.watchList = [] →
        Answers row s cmd .ok { w0 := if ∃ e ∈ s.pool, e.source = .stream i then 1 else 0 }
          (((taken cmd s).setPool (s.pool.filter fun e => decide (e.source ≠ .stream i))).setStream i
            { Stream.atReset with
              baseline := x.baseline
              lastValue := x.lastValue
              missing := x.missing
              stale := x.stale
              bad := x.bad
              heldCount := x.heldCount }))

/-- REVIVE_STREAM: its checks in order and its six steps (R72, R113, R40). -/
def Obligations.ReviveStream : Prop :=
  ∀ (h : CmdHeader) (s : State), commandArrives s = true →
    let cmd := recordOf h .reviveStream
    let row := Instr.reviveStream h
    (64 ≤ h.index.toNat → Refuses row s cmd .badArgument) ∧
    ∀ i : Fin 64, h.index.toNat = i.val →
      let x := s.streams[i]
      let deadline := if x.timeout = 0 then x.deadline
        else some (s.control.timeBase + BitVec.ofNat 48 (x.timeout.toNat * 1000))
      let broken := runsBroken x.watchList (taken cmd s)
      (x.state = .unbound → Refuses row s cmd .notFound) ∧
      (x.state = .bound ∨ x.state = .live → Refuses row s cmd .wrongState) ∧
      (x.state = .silent → x.held = false →
        Answers row s cmd .ok {}
          (broken.setStream i { x with state := .bound, previous := none, baseline := none, deadline := deadline })) ∧
      (x.state = .silent → x.held = true →
        Answers row s cmd .ok { w0 := 1 }
          ((evaluate
            { substitute := false, stream := i, value := x.lastValue, sequence := x.baseline.getD 0,
              time := s.control.timeBase, previous := none }
            (broken.setStream i { x with state := .live, previous := none })).setStream i
            { x with state := .live, previous := some x.lastValue, baseline := none, held := false, deadline := deadline }))

/-- CREATE_WATCH: its checks in order, and the watch and the list entry it makes (R87, R88, R84, R85, R86, R80, R40). -/
def Obligations.CreateWatch : Prop :=
  ∀ (h : CmdHeader) (p : WatchParams) (s : State), commandArrives s = true →
    let cmd := recordOf h (.createWatch p)
    let row := Instr.createWatch h p
    (128 ≤ h.index.toNat → Refuses row s cmd .badArgument) ∧
    ∀ id : Fin 128, h.index.toNat = id.val →
      (s.watches[id] ≠ none → Refuses row s cmd .inUse) ∧
      (s.watches[id] = none → (¬ ∃ i kind n line, NamesStatics p i kind n line ∧ GoodFields kind p) →
        Refuses row s cmd .badArgument) ∧
      ∀ i kind n line (l : Level), s.watches[id] = none → NamesStatics p i kind n line → GoodFields kind p → p.level.toNat = l.val →
        let x := s.streams[i]
        (x.state = .unbound → Refuses row s cmd .wrongState) ∧
        (x.state ≠ .unbound → 8 ≤ x.watchList.length → Refuses row s cmd .full) ∧
        (x.state ≠ .unbound → x.watchList.length < 8 → s.rings.event[n].state = .closed → Refuses row s cmd .wrongState) ∧
        (x.state ≠ .unbound → x.watchList.length < 8 → s.rings.event[n].state ≠ .closed →
          ∀ below above, x.watchList = below ++ above → (∀ y ∈ below, y < id) → (∀ y ∈ above, id < y) →
            Answers row s cmd .ok { w0 := packed [(0, 32, x.watchList.length + 1)] }
              (((taken cmd s).setWatch id (some
                { stream := i, kind := kind, target := n, alarmLine := line, hold := p.attributes.getLsbD 0,
                  latch := p.attributes.getLsbD 1, upper := p.upper, lower := p.lower, hysteresis := p.hysteresis,
                  na := p.na.toNat, nc := p.nc.toNat, level := l, state := .disarmed, runCounter := 0, acknowledged := false,
                  assertCount := 0, lastEvaluated := none })).setStream i { x with watchList := below ++ id :: above }))

/-- DELETE_WATCH, ARM_WATCH and DISARM_WATCH: their checks in order and their effects (R96, R89, R91, R86, R137, R161, R40). -/
def Obligations.DeleteArmDisarmWatch : Prop :=
  ∀ (h : CmdHeader) (s : State), commandArrives s = true →
    (∀ q ∈ [Request.deleteWatch, .armWatch, .disarmWatch],
      (128 ≤ h.index.toNat → Refuses (rowOf h q) s (recordOf h q) .badArgument) ∧
      ∀ id : Fin 128, h.index.toNat = id.val → s.watches[id] = none → Refuses (rowOf h q) s (recordOf h q) .notFound) ∧
    ∀ (id : Fin 128) (w : Watch), h.index.toNat = id.val → s.watches[id] = some w →
      (w.state ≠ .disarmed → Refuses (.deleteWatch h) s (recordOf h .deleteWatch) .wrongState ∧
        Refuses (.armWatch h) s (recordOf h .armWatch) .wrongState) ∧
      (w.state = .disarmed → Refuses (.disarmWatch h) s (recordOf h .disarmWatch) .wrongState) ∧
      (w.state = .disarmed →
        let cmd := recordOf h .deleteWatch
        let list := s.streams[w.stream].watchList.filter fun y => decide (y ≠ id)
        Answers (.deleteWatch h) s cmd .ok { w0 := packed [(0, 32, list.length)] }
          (((taken cmd s).setWatch id none).setStream w.stream { s.streams[w.stream] with watchList := list })) ∧
      (w.state = .disarmed →
        let cmd := recordOf h .armWatch
        Answers (.armWatch h) s cmd .ok {}
          ((taken cmd s).setWatch id (some { w with state := .clear, runCounter := 0, acknowledged := false }))) ∧
      (w.state ≠ .disarmed →
        let cmd := recordOf h .disarmWatch
        let u := if w.state = .asserted ∨ w.state = .pendingClear ∨ w.state = .held then contributionEnded w.alarmLine (taken cmd s)
          else taken cmd s
        Answers (.disarmWatch h) s cmd .ok { w0 := if ∃ e ∈ s.pool, e.source = .watch id then 1 else 0 }
          ((u.setPool (s.pool.filter fun e => decide (e.source ≠ .watch id))).setWatch id
            (some { w with state := .disarmed, runCounter := 0, acknowledged := false })))

/-- MODIFY_WATCH: its checks in order, the six new fields, the run break, and the level of the pending entry (R93, R94, R112, R138, R40). -/
def Obligations.ModifyWatch : Prop :=
  ∀ (h : CmdHeader) (p : WatchParams) (s : State), commandArrives s = true →
    let cmd := recordOf h (.modifyWatch p)
    let row := Instr.modifyWatch h p
    (128 ≤ h.index.toNat → Refuses row s cmd .badArgument) ∧
    ∀ id : Fin 128, h.index.toNat = id.val →
      (s.watches[id] = none → Refuses row s cmd .notFound) ∧
      ∀ w, s.watches[id] = some w →
        (¬ GoodFields w.kind p → Refuses row s cmd .badArgument) ∧
        (GoodFields w.kind p → ∀ l : Level, p.level.toNat = l.val →
          let u := (taken cmd s).setWatch id (some (brokenRun
            { w with
              upper := p.upper, lower := p.lower, hysteresis := p.hysteresis, na := p.na.toNat, nc := p.nc.toNat, level := l }))
          ((∀ e ∈ s.pool, e.source ≠ .watch id) → Answers row s cmd .ok {} u) ∧
          ∀ older e younger, s.pool = older ++ e :: younger → e.source = .watch id → (∀ x ∈ older, x.source ≠ .watch id) →
            (∀ x ∈ younger, x.source ≠ .watch id) →
            ∃ v, Answers row s cmd .ok { w0 := 1 } v ∧
              WriterChecked e.target (u.setPool (older ++ { e with level := max e.level l } :: younger)) v)

/-- ACK_WATCH: its checks in order; the flag in ASSERTED and PENDING_CLEAR; in HELD the end of the assertion with its WATCH_CLEAR and its
end report (R119 to R122, R124, R127, R40). -/
def Obligations.AckWatch : Prop :=
  ∀ (h : CmdHeader) (s : State), commandArrives s = true →
    let cmd := recordOf h .ackWatch
    let row := Instr.ackWatch h
    (128 ≤ h.index.toNat → Refuses row s cmd .badArgument) ∧
    ∀ id : Fin 128, h.index.toNat = id.val →
      (s.watches[id] = none → Refuses row s cmd .notFound) ∧
      ∀ w, s.watches[id] = some w →
        (w.state = .disarmed ∨ w.state = .clear ∨ w.state = .pendingAssert → Refuses row s cmd .wrongState) ∧
        (w.state = .asserted ∨ w.state = .pendingClear →
          Answers row s cmd .ok {} ((taken cmd s).setWatch id (some { w with acknowledged := true }))) ∧
        (w.state = .held → ∀ value, w.lastEvaluated = some value →
          ∃ v, Answers row s cmd .ok { w0 := 1 } (contributionEnded w.alarmLine v) ∧
            HandedUnlessLevelZero
              { source := .watch id, kind := .watchClear, target := w.target, level := w.level, hold := w.hold, stream := w.stream,
                value := value, sequence := s.streams[w.stream].baseline.getD 0, time := s.control.timeBase, fallback := false }
              ((taken cmd s).setWatch id (some { w with state := .clear, runCounter := 0 })) v)

/-- RELEASE and SET_FLOOR: their checks in order, the floors they leave, and the writer's check (R152, R154, R142, R40). -/
def Obligations.ReleaseAndSetFloor : Prop :=
  ∀ (h : CmdHeader) (level : Byte) (s : State), commandArrives s = true →
    let rel := recordOf h .release
    let set := recordOf h (.setFloor level)
    (4 ≤ h.index.toNat → Refuses (.release h) s rel .badArgument) ∧
    (4 ≤ h.index.toNat ∨ 8 ≤ level.toNat → Refuses (.setFloor h level) s set .badArgument) ∧
    ∀ n : Fin 4, h.index.toNat = n.val →
      let d := s.delivery[n]
      (s.rings.event[n].state = .closed ∨ d.floorStack = [] → Refuses (.release h) s rel .wrongState) ∧
      (s.rings.event[n].state ≠ .closed → ∀ stack top, d.floorStack = stack ++ [top] →
        ∃ v, Answers (.release h) s rel .ok
            { w0 := packed [(0, 32, top.val)]
              w1 := packed [(0, 32, (stack.getLast?.getD d.baseFloor).val)]
              w2 := packed [(0, 32, stack.length)] } v ∧
          WriterChecked n ((taken rel s).setDelivery n { d with floorStack := stack }) v) ∧
      ∀ l : Level, level.toNat = l.val →
        let holds := ∃ r, recordInFlight n s = some r ∧ r.holds = true
        (s.rings.event[n].state = .closed ∨ d.floorStack ≠ [] ∨ holds → Refuses (.setFloor h level) s set .wrongState) ∧
        (s.rings.event[n].state ≠ .closed → d.floorStack = [] → ¬ holds →
          ∃ v, Answers (.setFloor h level) s set .ok { w0 := packed [(0, 32, d.baseFloor.val)] } v ∧
            WriterChecked n ((taken set s).setDelivery n { d with baseFloor := l }) v)

/-- CONFIGURE_ALARM and RELEASE_ALARM: their checks in order, the asserted state they leave, and their result words (R166, R167, R40). -/
def Obligations.AlarmCommands : Prop :=
  ∀ (h : CmdHeader) (mode : Byte) (s : State), commandArrives s = true →
    let conf := recordOf h (.configureAlarm mode)
    let rel := recordOf h .releaseAlarm
    (4 ≤ h.index.toNat ∨ 2 ≤ mode.toNat → Refuses (.configureAlarm h mode) s conf .badArgument) ∧
    (4 ≤ h.index.toNat → Refuses (.releaseAlarm h) s rel .badArgument) ∧
    ∀ a : Fin 4, h.index.toNat = a.val →
      let l := s.alarms[a]
      (∀ m : AlarmMode, mode = m.code →
        let after := match l.mode, m with
          | .latch, .follow => decide (0 < l.count)
          | _, _ => l.asserted
        Answers (.configureAlarm h mode) s conf .ok
          { w0 := packed [(0, 32, l.mode.code.toNat)], w1 := packed [(0, 32, after.toNat)], w2 := packed [(0, 32, l.count)] }
          ((taken conf s).setAlarm a { mode := m, asserted := after, count := l.count })) ∧
      (l.mode = .follow → Refuses (.releaseAlarm h) s rel .wrongState) ∧
      (l.mode = .latch → l.count ≠ 0 → Refuses (.releaseAlarm h) s rel .stillActive) ∧
      (l.mode = .latch → l.count = 0 →
        Answers (.releaseAlarm h) s rel .ok { w0 := packed [(0, 32, l.asserted.toNat)] }
          ((taken rel s).setAlarm a { l with asserted := false }))

/-! ## Samples, watches and events -/

/-- A record routes to the bound stream of its id and ring or is counted as unrouted, and the sequence check sorts a routed one (R56, R57,
R31). -/
def Obligations.RoutingAndSequenceCheck : Prop :=
  ∀ (n : Fin 8) (r : SampleRecord) (s : State),
    ((∀ i : Fin 64, r.stream.toNat = i.val → s.streams[i].state = .unbound ∨ s.streams[i].sampleRing ≠ n) →
      processRecord n r s =
        s.setSampleRing n { s.rings.sample[n] with unrouted := min 65535 (s.rings.sample[n].unrouted + 1) }) ∧
    ∀ i : Fin 64, r.stream.toNat = i.val → s.streams[i].state ≠ .unbound → s.streams[i].sampleRing = n →
      let x := s.streams[i]
      (x.baseline = none → processRecord n r s = acceptSample i false r (s.setStream i { x with baseline := some r.sequence })) ∧
      ∀ b, x.baseline = some b →
        let d := ((r.sequence.toNat : Int) - b.toNat) % 65536
        (d = 0 ∨ 32768 ≤ d → processRecord n r s = s.setStream i { x with stale := min 65535 (x.stale + 1) }) ∧
        (d = 1 → processRecord n r s = acceptSample i false r (s.setStream i { x with baseline := some r.sequence })) ∧
        (2 ≤ d → d ≤ 32767 → processRecord n r s =
          acceptSample i true r
            (s.setStream i { x with baseline := some r.sequence, missing := min 65535 (x.missing + (d.toNat - 1)) }))

/-- What becomes of an accepted sample: good and BAD in BOUND and LIVE, with the run break of a gap, and good and BAD in SILENT (R58 to
R61, R63). -/
def Obligations.AcceptedSamples : Prop :=
  ∀ (i : Fin 64) (gap : Bool) (r : SampleRecord) (s : State),
    let x := s.streams[i]
    let deadline := if x.timeout = 0 then x.deadline else some (s.control.timeBase + BitVec.ofNat 48 (x.timeout.toNat * 1000))
    let before := if gap then runsBroken x.watchList s else s
    (x.state = .bound ∨ x.state = .live → r.bad = false →
      acceptSample i gap r s =
        (evaluate
          { substitute := false, stream := i, value := r.value, sequence := r.sequence, time := s.control.timeBase,
            previous := x.previous }
          (before.setStream i { x with state := .live, deadline := deadline })).setStream i
          { x with state := .live, deadline := deadline, lastValue := r.value, previous := some r.value }) ∧
    (x.state = .bound ∨ x.state = .live → r.bad = true →
      acceptSample i gap r s =
        (runsBroken x.watchList s).setStream i
          { x with state := .live, deadline := deadline, bad := min 65535 (x.bad + 1), previous := none }) ∧
    (x.state = .silent → r.bad = false →
      acceptSample i gap r s =
        s.setStream i { x with lastValue := r.value, heldCount := min 65535 (x.heldCount + 1), held := true }) ∧
    (x.state = .silent → r.bad = true → acceptSample i gap r s = s.setStream i { x with bad := min 65535 (x.bad + 1) })

/-- The verdict of each kind, in exact integers: fire, clear and neutral exactly where the table of R81 says, for thresholds that pass
R85; a STEP watch gives none without a previous evaluated value (R81, R82). -/
def Obligations.VerdictsOfTheKinds : Prop :=
  ∀ (w : Watch) (v : Int) (p : Option Int),
    let upper := w.upper.toInt
    let lower := w.lower.toInt
    let h : Int := w.hysteresis.toNat
    (w.kind = .above →
      (w.verdict v p = some .fire ↔ upper < v) ∧ (w.verdict v p = some .clear ↔ v ≤ upper - h) ∧
      (w.verdict v p = some .neutral ↔ upper - h < v ∧ v ≤ upper)) ∧
    (w.kind = .below →
      (w.verdict v p = some .fire ↔ v < lower) ∧ (w.verdict v p = some .clear ↔ lower + h ≤ v) ∧
      (w.verdict v p = some .neutral ↔ lower ≤ v ∧ v < lower + h)) ∧
    (w.kind = .outside → lower ≤ upper → 2 * h ≤ upper - lower →
      (w.verdict v p = some .fire ↔ upper < v ∨ v < lower) ∧ (w.verdict v p = some .clear ↔ lower + h ≤ v ∧ v ≤ upper - h) ∧
      (w.verdict v p = some .neutral ↔ (upper - h < v ∧ v ≤ upper) ∨ (lower ≤ v ∧ v < lower + h))) ∧
    (w.kind = .step → p = none → w.verdict v p = none) ∧
    (w.kind = .step → ∀ q, p = some q → 
      (w.verdict v p = some .fire ↔ upper < |v - q|) ∧ (w.verdict v p = some .clear ↔ |v - q| ≤ upper - h) ∧
      (w.verdict v p = some .neutral ↔ upper - h < |v - q| ∧ |v - q| ≤ upper))

/-- A verdict in normal mode, in each armed state: the new state, run counter, flag and count, and whether the watch crosses to the alarm
side or to CLEAR; the end of a clear run leaves an unacknowledged latched watch in HELD (R106 to R109). -/
def Obligations.NormalModeTransitions : Prop :=
  ∀ w : Watch,
    let cleared : Watch × Crossing :=
      if w.latch = true ∧ w.acknowledged = false then ({ w with state := .held, runCounter := 0 }, .stays)
      else ({ w with state := .clear, runCounter := 0 }, .clears)
    (w.state = .clear ∨ w.state = .pendingAssert →
      (w.runCounter + 1 = w.na → w.normalVerdict .fire =
        ({ w with state := .asserted, runCounter := 0, acknowledged := false, assertCount := min 65535 (w.assertCount + 1) },
          .asserts)) ∧
      (w.runCounter + 1 ≠ w.na → w.normalVerdict .fire =
        ({ w with state := .pendingAssert, runCounter := w.runCounter + 1 }, .stays)) ∧
      w.normalVerdict .clear = ({ w with state := .clear, runCounter := 0 }, .stays) ∧
      w.normalVerdict .neutral = ({ w with state := .clear, runCounter := 0 }, .stays)) ∧
    (w.state = .asserted ∨ w.state = .pendingClear →
      (w.runCounter + 1 = w.nc → w.normalVerdict .clear = cleared) ∧
      (w.runCounter + 1 ≠ w.nc → w.normalVerdict .clear =
        ({ w with state := .pendingClear, runCounter := w.runCounter + 1 }, .stays)) ∧
      w.normalVerdict .fire = ({ w with state := .asserted, runCounter := 0 }, .stays) ∧
      w.normalVerdict .neutral = ({ w with state := .asserted, runCounter := 0 }, .stays)) ∧
    (w.state = .held →
      w.normalVerdict .fire = ({ w with state := .asserted }, .stays) ∧ w.normalVerdict .clear = (w, .stays) ∧
      w.normalVerdict .neutral = (w, .stays))

/-- A verdict on a substitute, in each armed state whose run counter obeys R105 (R115, R116). -/
def Obligations.SubstituteModeTransitions : Prop :=
  ∀ w : Watch, (w.state ≠ .pendingAssert → w.state ≠ .pendingClear → w.runCounter = 0) →
    let cleared : Watch × Crossing :=
      if w.latch = true ∧ w.acknowledged = false then ({ w with state := .held, runCounter := 0 }, .stays)
      else ({ w with state := .clear, runCounter := 0 }, .clears)
    (w.state = .clear ∨ w.state = .pendingAssert → w.substituteVerdict .fire =
      ({ w with state := .asserted, runCounter := 0, acknowledged := false, assertCount := min 65535 (w.assertCount + 1) },
        .asserts)) ∧
    (w.state = .pendingClear → w.substituteVerdict .fire = ({ w with state := .asserted, runCounter := 0 }, .stays)) ∧
    (w.state = .asserted ∨ w.state = .held → w.substituteVerdict .fire = (w, .stays)) ∧
    (w.state = .clear ∨ w.state = .held → w.substituteVerdict .clear = (w, .stays)) ∧
    (w.state = .pendingAssert → w.substituteVerdict .clear = ({ w with state := .clear, runCounter := 0 }, .stays)) ∧
    (w.state = .asserted ∨ w.state = .pendingClear → w.substituteVerdict .clear = cleared) ∧
    (w.state ≠ .disarmed → w.substituteVerdict .neutral = (brokenRun w, .stays)) ∧
    ∀ v, w.state ≠ .disarmed → (w.substituteVerdict v).1.runCounter = 0

/-- One watch judges a value: a free entry and a DISARMED watch are skipped; an armed watch keeps the value it judged, takes its verdict
by the mode, hands its event over and makes its report; a list is walked in its order (R102, R103, R124, R125, R127). The line's pin follows
each report (R161 to R164), so that an end and a begin within one walk take it low and high again (R162; the record is log 15's). That the
count of any state falls by a truncated difference is log 22. -/
def Obligations.JudgementOfAWatch : Prop :=
  (∀ (a : Fin 4) (s : State),
    let l := s.alarms[a]
    let begun := contributionBegun (some a) s
    let ended := contributionEnded (some a) s
    (l.mode = .follow → (l.asserted = true ↔ 0 < l.count) →
      begun.pinChanges = s.pinChanges ++ (if l.count = 0 then [{ pin := .alm a, high := true }] else []) ∧
      ended.pinChanges = s.pinChanges ++ (if l.count = 1 then [{ pin := .alm a, high := false }] else [])) ∧
    (l.mode = .latch → (0 < l.count → l.asserted = true) →
      begun.pinChanges = s.pinChanges ++ (if l.asserted = true then [] else [{ pin := .alm a, high := true }]) ∧
      ended.pinChanges = s.pinChanges) ∧
    (l.mode = .follow → l.asserted = true → l.count = 1 →
      (contributionBegun (some a) ended).pinChanges =
        s.pinChanges ++ [{ pin := .alm a, high := false }, { pin := .alm a, high := true }] ∧
      (contributionEnded (some a) begun).pinChanges = s.pinChanges)) ∧
  (∀ (r : EvalRequest) (s : State), evaluate r s = s.streams[r.stream].watchList.foldl (fun t id => judge r id t) s) ∧
  ∀ (r : EvalRequest) (id : Fin 128) (s : State),
    (s.watches[id] = none → judge r id s = s) ∧
    ∀ w, s.watches[id] = some w →
      (w.state = .disarmed → judge r id s = s) ∧
      (w.state ≠ .disarmed →
        let seen : Watch := { w with lastEvaluated := some r.value }
        let verdict := w.verdict r.value.toInt (if r.substitute then none else r.previous.map BitVec.toInt)
        (verdict = none → judge r id s = s.setWatch id (some seen)) ∧
        ∀ v, verdict = some v →
          let out := if r.substitute then seen.substituteVerdict v else seen.normalVerdict v
          let event := fun kind : EventKind =>
            ({ source := .watch id, kind := kind, target := w.target, level := w.level, hold := w.hold, stream := w.stream,
               value := r.value, sequence := r.sequence, time := r.time, fallback := r.substitute } : Event)
          let u := s.setWatch id (some out.1)
          (out.2 = .stays → judge r id s = u) ∧
          (out.2 = .asserts → ∃ t, HandedUnlessLevelZero (event .watchAssert) u t ∧
            judge r id s = contributionBegun w.alarmLine t) ∧
          (out.2 = .clears → ∃ t, HandedUnlessLevelZero (event .watchClear) u t ∧
            judge r id s = contributionEnded w.alarmLine t))

/-- A hand-over folds into the source's pending entry, takes a free entry, or is lost to the ring's count (R132 to R135), and the writer
then checks its conditions (R142), inside the event (log 12). -/
def Obligations.HandOverFoldsAllocatesOrLoses : Prop := ∀ (e : Event) (s : State), EventHanded e s (handEvent e s)

/-- The writer of an event ring issues an owed OVERRUN first, and else the oldest of the highest-level deliverable entries, at the
conditions of R142 (R142 to R145), and the bytes that the write carries (R146, R205). -/
def Obligations.WriterTakesTheHighestThenOldest : Prop :=
  (∀ lap e, e.foldCount ≤ 255 → SpellsEvent (entryFields lap e) (Payload.eventWrite (.entry lap e)).bytes) ∧
  (∀ lap carried time, carried ≤ 65535 →
    SpellsEvent (overrunFields lap carried time) (Payload.eventWrite (.overrun lap carried time)).bytes) ∧
  (∀ (n : Fin 4) (s : State), WriterChecked n s (checkWriter n s)) ∧
  ∀ (n : Fin 4) (s : State), (∃ e ∈ pendingOrder n s.pool, s.delivery[n].currentFloor < e.level) → ∃ e, IsChoice n s e

/-! ## Laws that every step keeps -/

/-- R165, R162, R195: every step keeps the alarm law, and each pin at the level of its last recorded change (the record is log 15's). -/
def Obligations.StepsKeepTheAlarmLaw : Prop := KeptByStep fun s => AlarmLaw s ∧ PinsLaw s

/-- R161: every step keeps each line's count the number of watches that contribute to it. -/
def Obligations.StepsKeepTheContributionCounts : Prop := KeptByStep ContributionLaw

/-- R105: every step keeps the law of the watch state. -/
def Obligations.StepsKeepTheWatchLaw : Prop := KeptByStep WatchesLaw

/-- R131: every step keeps at most one pending entry per source and at most 64 in the pool. -/
def Obligations.StepsKeepThePoolLaw : Prop := KeptByStep PoolLaw

/-- R141: every step keeps each floor stack strictly increasing and above its base floor. -/
def Obligations.StepsKeepTheFloorLaw : Prop := KeptByStep FloorsLaw

/-- R191, R177: every step keeps the fault record and the held requests in step with the engine state. -/
def Obligations.StepsKeepTheFaultLaw : Prop := KeptByStep FaultLaw

/-- R33, R187, R188: every step keeps the accesses, the held command and the reply of each command engine state, and the quiet of IDLE,
LOADING and STOPPED. -/
def Obligations.StepsKeepTheCommandPathLaw : Prop := KeptByStep fun s => CommandPathLaw s ∧ QuietLaw s

/-- R2, R3, R5: every step keeps the geometry, the indices and the states of the fourteen rings. -/
def Obligations.StepsKeepTheRingLaw : Prop := KeptByStep RingsLaw

/-- R86, R53: every step keeps the watch table and the watch lists in step. -/
def Obligations.StepsKeepTheWatchLists : Prop := KeptByStep WatchListLaw

/-- R76, R86, R27: every step keeps the rings of bound streams and of watches from being CLOSED. -/
def Obligations.StepsKeepUsedRingsOpen : Prop := KeptByStep RingUsersLaw

/-- R51, R52, R63: every step keeps a silence deadline exactly with the BOUND and LIVE streams that have a timeout. -/
def Obligations.StepsKeepTheStreamLaw : Prop := KeptByStep StreamsLaw

/-- R17, R20: every step keeps each requester to its own kind of access, and the epochs of accesses. -/
def Obligations.StepsKeepTheEpochLaw : Prop := KeptByStep EpochLaw
end

