-- ==== Sys2Proof/Laws/State.lean ====
section
/-!
SUPPORT. One lemma for each field after each update of the state, each true by unfolding the update once, what an update notes of the
pins, and what an update of one access leaves of the others. Later proofs cite these and unfold no update.
-/

namespace Sys2Proof.Machine

variable (s : State)

/-! ## mapControl -/

@[simp] theorem State.mapControl_control (f : Control → Control) : (s.mapControl f).control = f s.control := rfl
@[simp] theorem State.mapControl_mau (f : Control → Control) : (s.mapControl f).mau = s.mau := rfl
@[simp] theorem State.mapControl_rings (f : Control → Control) : (s.mapControl f).rings = s.rings := rfl
@[simp] theorem State.mapControl_cmd (f : Control → Control) : (s.mapControl f).cmd = s.cmd := rfl
@[simp] theorem State.mapControl_streams (f : Control → Control) : (s.mapControl f).streams = s.streams := rfl
@[simp] theorem State.mapControl_watches (f : Control → Control) : (s.mapControl f).watches = s.watches := rfl
@[simp] theorem State.mapControl_pool (f : Control → Control) : (s.mapControl f).pool = s.pool := rfl
@[simp] theorem State.mapControl_delivery (f : Control → Control) : (s.mapControl f).delivery = s.delivery := rfl
@[simp] theorem State.mapControl_alarms (f : Control → Control) : (s.mapControl f).alarms = s.alarms := rfl
@[simp] theorem State.mapControl_pinChanges (f : Control → Control) : (s.mapControl f).pinChanges = s.pinChanges := rfl
@[simp] theorem State.mapControl_readData (f : Control → Control) : (s.mapControl f).readData = s.readData := rfl
@[simp] theorem State.mapControl_pending (f : Control → Control) : (s.mapControl f).pending = s.pending := rfl

/-! ## mapMau -/

@[simp] theorem State.mapMau_control (f : MemoryUnit → MemoryUnit) : (s.mapMau f).control = s.control := rfl
@[simp] theorem State.mapMau_mau (f : MemoryUnit → MemoryUnit) : (s.mapMau f).mau = f s.mau := rfl
@[simp] theorem State.mapMau_rings (f : MemoryUnit → MemoryUnit) : (s.mapMau f).rings = s.rings := rfl
@[simp] theorem State.mapMau_cmd (f : MemoryUnit → MemoryUnit) : (s.mapMau f).cmd = s.cmd := rfl
@[simp] theorem State.mapMau_streams (f : MemoryUnit → MemoryUnit) : (s.mapMau f).streams = s.streams := rfl
@[simp] theorem State.mapMau_watches (f : MemoryUnit → MemoryUnit) : (s.mapMau f).watches = s.watches := rfl
@[simp] theorem State.mapMau_pool (f : MemoryUnit → MemoryUnit) : (s.mapMau f).pool = s.pool := rfl
@[simp] theorem State.mapMau_delivery (f : MemoryUnit → MemoryUnit) : (s.mapMau f).delivery = s.delivery := rfl
@[simp] theorem State.mapMau_alarms (f : MemoryUnit → MemoryUnit) : (s.mapMau f).alarms = s.alarms := rfl
@[simp] theorem State.mapMau_pinChanges (f : MemoryUnit → MemoryUnit) : (s.mapMau f).pinChanges = s.pinChanges := rfl
@[simp] theorem State.mapMau_readData (f : MemoryUnit → MemoryUnit) : (s.mapMau f).readData = s.readData := rfl
@[simp] theorem State.mapMau_pending (f : MemoryUnit → MemoryUnit) : (s.mapMau f).pending = s.pending := rfl

/-! ## mapRings -/

@[simp] theorem State.mapRings_control (f : RingManager → RingManager) : (s.mapRings f).control = s.control := rfl
@[simp] theorem State.mapRings_mau (f : RingManager → RingManager) : (s.mapRings f).mau = s.mau := rfl
@[simp] theorem State.mapRings_rings (f : RingManager → RingManager) : (s.mapRings f).rings = f s.rings := rfl
@[simp] theorem State.mapRings_cmd (f : RingManager → RingManager) : (s.mapRings f).cmd = s.cmd := rfl
@[simp] theorem State.mapRings_streams (f : RingManager → RingManager) : (s.mapRings f).streams = s.streams := rfl
@[simp] theorem State.mapRings_watches (f : RingManager → RingManager) : (s.mapRings f).watches = s.watches := rfl
@[simp] theorem State.mapRings_pool (f : RingManager → RingManager) : (s.mapRings f).pool = s.pool := rfl
@[simp] theorem State.mapRings_delivery (f : RingManager → RingManager) : (s.mapRings f).delivery = s.delivery := rfl
@[simp] theorem State.mapRings_alarms (f : RingManager → RingManager) : (s.mapRings f).alarms = s.alarms := rfl
@[simp] theorem State.mapRings_pinChanges (f : RingManager → RingManager) : (s.mapRings f).pinChanges = s.pinChanges := rfl
@[simp] theorem State.mapRings_readData (f : RingManager → RingManager) : (s.mapRings f).readData = s.readData := rfl
@[simp] theorem State.mapRings_pending (f : RingManager → RingManager) : (s.mapRings f).pending = s.pending := rfl

/-! ## setCmd -/

@[simp] theorem State.setCmd_control (c : CommandEngine) : (s.setCmd c).control = s.control := rfl
@[simp] theorem State.setCmd_mau (c : CommandEngine) : (s.setCmd c).mau = s.mau := rfl
@[simp] theorem State.setCmd_rings (c : CommandEngine) : (s.setCmd c).rings = s.rings := rfl
@[simp] theorem State.setCmd_cmd (c : CommandEngine) : (s.setCmd c).cmd = c := rfl
@[simp] theorem State.setCmd_streams (c : CommandEngine) : (s.setCmd c).streams = s.streams := rfl
@[simp] theorem State.setCmd_watches (c : CommandEngine) : (s.setCmd c).watches = s.watches := rfl
@[simp] theorem State.setCmd_pool (c : CommandEngine) : (s.setCmd c).pool = s.pool := rfl
@[simp] theorem State.setCmd_delivery (c : CommandEngine) : (s.setCmd c).delivery = s.delivery := rfl
@[simp] theorem State.setCmd_alarms (c : CommandEngine) : (s.setCmd c).alarms = s.alarms := rfl
@[simp] theorem State.setCmd_pinChanges (c : CommandEngine) : (s.setCmd c).pinChanges = s.pinChanges := rfl
@[simp] theorem State.setCmd_readData (c : CommandEngine) : (s.setCmd c).readData = s.readData := rfl
@[simp] theorem State.setCmd_pending (c : CommandEngine) : (s.setCmd c).pending = s.pending := rfl

/-! ## setStream -/

@[simp] theorem State.setStream_control (i : Fin 64) (x : Stream) : (s.setStream i x).control = s.control := rfl
@[simp] theorem State.setStream_mau (i : Fin 64) (x : Stream) : (s.setStream i x).mau = s.mau := rfl
@[simp] theorem State.setStream_rings (i : Fin 64) (x : Stream) : (s.setStream i x).rings = s.rings := rfl
@[simp] theorem State.setStream_cmd (i : Fin 64) (x : Stream) : (s.setStream i x).cmd = s.cmd := rfl
@[simp] theorem State.setStream_streams (i : Fin 64) (x : Stream) : (s.setStream i x).streams = s.streams.set i x := rfl
@[simp] theorem State.setStream_watches (i : Fin 64) (x : Stream) : (s.setStream i x).watches = s.watches := rfl
@[simp] theorem State.setStream_pool (i : Fin 64) (x : Stream) : (s.setStream i x).pool = s.pool := rfl
@[simp] theorem State.setStream_delivery (i : Fin 64) (x : Stream) : (s.setStream i x).delivery = s.delivery := rfl
@[simp] theorem State.setStream_alarms (i : Fin 64) (x : Stream) : (s.setStream i x).alarms = s.alarms := rfl
@[simp] theorem State.setStream_pinChanges (i : Fin 64) (x : Stream) : (s.setStream i x).pinChanges = s.pinChanges := rfl
@[simp] theorem State.setStream_readData (i : Fin 64) (x : Stream) : (s.setStream i x).readData = s.readData := rfl
@[simp] theorem State.setStream_pending (i : Fin 64) (x : Stream) : (s.setStream i x).pending = s.pending := rfl

/-! ## setWatch -/

@[simp] theorem State.setWatch_control (i : Fin 128) (x : Option Watch) : (s.setWatch i x).control = s.control := rfl
@[simp] theorem State.setWatch_mau (i : Fin 128) (x : Option Watch) : (s.setWatch i x).mau = s.mau := rfl
@[simp] theorem State.setWatch_rings (i : Fin 128) (x : Option Watch) : (s.setWatch i x).rings = s.rings := rfl
@[simp] theorem State.setWatch_cmd (i : Fin 128) (x : Option Watch) : (s.setWatch i x).cmd = s.cmd := rfl
@[simp] theorem State.setWatch_streams (i : Fin 128) (x : Option Watch) : (s.setWatch i x).streams = s.streams := rfl
@[simp] theorem State.setWatch_watches (i : Fin 128) (x : Option Watch) : (s.setWatch i x).watches = s.watches.set i x := rfl
@[simp] theorem State.setWatch_pool (i : Fin 128) (x : Option Watch) : (s.setWatch i x).pool = s.pool := rfl
@[simp] theorem State.setWatch_delivery (i : Fin 128) (x : Option Watch) : (s.setWatch i x).delivery = s.delivery := rfl
@[simp] theorem State.setWatch_alarms (i : Fin 128) (x : Option Watch) : (s.setWatch i x).alarms = s.alarms := rfl
@[simp] theorem State.setWatch_pinChanges (i : Fin 128) (x : Option Watch) : (s.setWatch i x).pinChanges = s.pinChanges := rfl
@[simp] theorem State.setWatch_readData (i : Fin 128) (x : Option Watch) : (s.setWatch i x).readData = s.readData := rfl
@[simp] theorem State.setWatch_pending (i : Fin 128) (x : Option Watch) : (s.setWatch i x).pending = s.pending := rfl

/-! ## setPool -/

@[simp] theorem State.setPool_control (p : List PendingEntry) : (s.setPool p).control = s.control := rfl
@[simp] theorem State.setPool_mau (p : List PendingEntry) : (s.setPool p).mau = s.mau := rfl
@[simp] theorem State.setPool_rings (p : List PendingEntry) : (s.setPool p).rings = s.rings := rfl
@[simp] theorem State.setPool_cmd (p : List PendingEntry) : (s.setPool p).cmd = s.cmd := rfl
@[simp] theorem State.setPool_streams (p : List PendingEntry) : (s.setPool p).streams = s.streams := rfl
@[simp] theorem State.setPool_watches (p : List PendingEntry) : (s.setPool p).watches = s.watches := rfl
@[simp] theorem State.setPool_pool (p : List PendingEntry) : (s.setPool p).pool = p := rfl
@[simp] theorem State.setPool_delivery (p : List PendingEntry) : (s.setPool p).delivery = s.delivery := rfl
@[simp] theorem State.setPool_alarms (p : List PendingEntry) : (s.setPool p).alarms = s.alarms := rfl
@[simp] theorem State.setPool_pinChanges (p : List PendingEntry) : (s.setPool p).pinChanges = s.pinChanges := rfl
@[simp] theorem State.setPool_readData (p : List PendingEntry) : (s.setPool p).readData = s.readData := rfl
@[simp] theorem State.setPool_pending (p : List PendingEntry) : (s.setPool p).pending = s.pending := rfl

/-! ## setDelivery -/

@[simp] theorem State.setDelivery_control (n : Fin 4) (d : Delivery) : (s.setDelivery n d).control = s.control := rfl
@[simp] theorem State.setDelivery_mau (n : Fin 4) (d : Delivery) : (s.setDelivery n d).mau = s.mau := rfl
@[simp] theorem State.setDelivery_rings (n : Fin 4) (d : Delivery) : (s.setDelivery n d).rings = s.rings := rfl
@[simp] theorem State.setDelivery_cmd (n : Fin 4) (d : Delivery) : (s.setDelivery n d).cmd = s.cmd := rfl
@[simp] theorem State.setDelivery_streams (n : Fin 4) (d : Delivery) : (s.setDelivery n d).streams = s.streams := rfl
@[simp] theorem State.setDelivery_watches (n : Fin 4) (d : Delivery) : (s.setDelivery n d).watches = s.watches := rfl
@[simp] theorem State.setDelivery_pool (n : Fin 4) (d : Delivery) : (s.setDelivery n d).pool = s.pool := rfl
@[simp] theorem State.setDelivery_delivery (n : Fin 4) (d : Delivery) : (s.setDelivery n d).delivery = s.delivery.set n d := rfl
@[simp] theorem State.setDelivery_alarms (n : Fin 4) (d : Delivery) : (s.setDelivery n d).alarms = s.alarms := rfl
@[simp] theorem State.setDelivery_pinChanges (n : Fin 4) (d : Delivery) : (s.setDelivery n d).pinChanges = s.pinChanges := rfl
@[simp] theorem State.setDelivery_readData (n : Fin 4) (d : Delivery) : (s.setDelivery n d).readData = s.readData := rfl
@[simp] theorem State.setDelivery_pending (n : Fin 4) (d : Delivery) : (s.setDelivery n d).pending = s.pending := rfl

/-! ## setAlarm -/

@[simp] theorem State.setAlarm_control (a : Fin 4) (l : AlarmLine) : (s.setAlarm a l).control = s.control := rfl
@[simp] theorem State.setAlarm_mau (a : Fin 4) (l : AlarmLine) : (s.setAlarm a l).mau = s.mau := rfl
@[simp] theorem State.setAlarm_rings (a : Fin 4) (l : AlarmLine) : (s.setAlarm a l).rings = s.rings := rfl
@[simp] theorem State.setAlarm_cmd (a : Fin 4) (l : AlarmLine) : (s.setAlarm a l).cmd = s.cmd := rfl
@[simp] theorem State.setAlarm_streams (a : Fin 4) (l : AlarmLine) : (s.setAlarm a l).streams = s.streams := rfl
@[simp] theorem State.setAlarm_watches (a : Fin 4) (l : AlarmLine) : (s.setAlarm a l).watches = s.watches := rfl
@[simp] theorem State.setAlarm_pool (a : Fin 4) (l : AlarmLine) : (s.setAlarm a l).pool = s.pool := rfl
@[simp] theorem State.setAlarm_delivery (a : Fin 4) (l : AlarmLine) : (s.setAlarm a l).delivery = s.delivery := rfl
@[simp] theorem State.setAlarm_alarms (a : Fin 4) (l : AlarmLine) : (s.setAlarm a l).alarms = s.alarms.set a l := rfl
@[simp] theorem State.setAlarm_pinChanges (a : Fin 4) (l : AlarmLine) :
    (s.setAlarm a l).pinChanges = s.pinChanges ++ pinStep (.alm a) s.alarms[a].asserted l.asserted := rfl
@[simp] theorem State.setAlarm_readData (a : Fin 4) (l : AlarmLine) : (s.setAlarm a l).readData = s.readData := rfl
@[simp] theorem State.setAlarm_pending (a : Fin 4) (l : AlarmLine) : (s.setAlarm a l).pending = s.pending := rfl

/-! ## setCommandRing -/

@[simp] theorem State.setCommandRing_control (d : Descriptor) : (s.setCommandRing d).control = s.control := rfl
@[simp] theorem State.setCommandRing_mau (d : Descriptor) : (s.setCommandRing d).mau = s.mau := rfl
@[simp] theorem State.setCommandRing_rings (d : Descriptor) : (s.setCommandRing d).rings = { s.rings with command := d } := rfl
@[simp] theorem State.setCommandRing_cmd (d : Descriptor) : (s.setCommandRing d).cmd = s.cmd := rfl
@[simp] theorem State.setCommandRing_streams (d : Descriptor) : (s.setCommandRing d).streams = s.streams := rfl
@[simp] theorem State.setCommandRing_watches (d : Descriptor) : (s.setCommandRing d).watches = s.watches := rfl
@[simp] theorem State.setCommandRing_pool (d : Descriptor) : (s.setCommandRing d).pool = s.pool := rfl
@[simp] theorem State.setCommandRing_delivery (d : Descriptor) : (s.setCommandRing d).delivery = s.delivery := rfl
@[simp] theorem State.setCommandRing_alarms (d : Descriptor) : (s.setCommandRing d).alarms = s.alarms := rfl
@[simp] theorem State.setCommandRing_pinChanges (d : Descriptor) : (s.setCommandRing d).pinChanges = s.pinChanges := rfl
@[simp] theorem State.setCommandRing_readData (d : Descriptor) : (s.setCommandRing d).readData = s.readData := rfl
@[simp] theorem State.setCommandRing_pending (d : Descriptor) : (s.setCommandRing d).pending = s.pending := rfl

/-! ## setReplyRing -/

@[simp] theorem State.setReplyRing_control (d : ReplyRing) : (s.setReplyRing d).control = s.control := rfl
@[simp] theorem State.setReplyRing_mau (d : ReplyRing) : (s.setReplyRing d).mau = s.mau := rfl
@[simp] theorem State.setReplyRing_rings (d : ReplyRing) : (s.setReplyRing d).rings = { s.rings with reply := d } := rfl
@[simp] theorem State.setReplyRing_cmd (d : ReplyRing) : (s.setReplyRing d).cmd = s.cmd := rfl
@[simp] theorem State.setReplyRing_streams (d : ReplyRing) : (s.setReplyRing d).streams = s.streams := rfl
@[simp] theorem State.setReplyRing_watches (d : ReplyRing) : (s.setReplyRing d).watches = s.watches := rfl
@[simp] theorem State.setReplyRing_pool (d : ReplyRing) : (s.setReplyRing d).pool = s.pool := rfl
@[simp] theorem State.setReplyRing_delivery (d : ReplyRing) : (s.setReplyRing d).delivery = s.delivery := rfl
@[simp] theorem State.setReplyRing_alarms (d : ReplyRing) : (s.setReplyRing d).alarms = s.alarms := rfl
@[simp] theorem State.setReplyRing_pinChanges (d : ReplyRing) :
    (s.setReplyRing d).pinChanges = s.pinChanges ++ pinStep .attn (!attention s) (!attention (s.setReplyRing d)) := rfl
@[simp] theorem State.setReplyRing_readData (d : ReplyRing) : (s.setReplyRing d).readData = s.readData := rfl
@[simp] theorem State.setReplyRing_pending (d : ReplyRing) : (s.setReplyRing d).pending = s.pending := rfl

/-! ## setSampleRing -/

@[simp] theorem State.setSampleRing_control (n : Fin 8) (d : SampleRing) : (s.setSampleRing n d).control = s.control := rfl
@[simp] theorem State.setSampleRing_mau (n : Fin 8) (d : SampleRing) : (s.setSampleRing n d).mau = s.mau := rfl
@[simp] theorem State.setSampleRing_rings (n : Fin 8) (d : SampleRing) : (s.setSampleRing n d).rings = { s.rings with sample := s.rings.sample.set n d } := rfl
@[simp] theorem State.setSampleRing_cmd (n : Fin 8) (d : SampleRing) : (s.setSampleRing n d).cmd = s.cmd := rfl
@[simp] theorem State.setSampleRing_streams (n : Fin 8) (d : SampleRing) : (s.setSampleRing n d).streams = s.streams := rfl
@[simp] theorem State.setSampleRing_watches (n : Fin 8) (d : SampleRing) : (s.setSampleRing n d).watches = s.watches := rfl
@[simp] theorem State.setSampleRing_pool (n : Fin 8) (d : SampleRing) : (s.setSampleRing n d).pool = s.pool := rfl
@[simp] theorem State.setSampleRing_delivery (n : Fin 8) (d : SampleRing) : (s.setSampleRing n d).delivery = s.delivery := rfl
@[simp] theorem State.setSampleRing_alarms (n : Fin 8) (d : SampleRing) : (s.setSampleRing n d).alarms = s.alarms := rfl
@[simp] theorem State.setSampleRing_pinChanges (n : Fin 8) (d : SampleRing) :
    (s.setSampleRing n d).pinChanges = s.pinChanges ++ pinStep .attn (!attention s) (!attention (s.setSampleRing n d)) := rfl
@[simp] theorem State.setSampleRing_readData (n : Fin 8) (d : SampleRing) : (s.setSampleRing n d).readData = s.readData := rfl
@[simp] theorem State.setSampleRing_pending (n : Fin 8) (d : SampleRing) : (s.setSampleRing n d).pending = s.pending := rfl

/-! ## setEventRing -/

@[simp] theorem State.setEventRing_control (n : Fin 4) (d : EventRing) : (s.setEventRing n d).control = s.control := rfl
@[simp] theorem State.setEventRing_mau (n : Fin 4) (d : EventRing) : (s.setEventRing n d).mau = s.mau := rfl
@[simp] theorem State.setEventRing_rings (n : Fin 4) (d : EventRing) : (s.setEventRing n d).rings = { s.rings with event := s.rings.event.set n d } := rfl
@[simp] theorem State.setEventRing_cmd (n : Fin 4) (d : EventRing) : (s.setEventRing n d).cmd = s.cmd := rfl
@[simp] theorem State.setEventRing_streams (n : Fin 4) (d : EventRing) : (s.setEventRing n d).streams = s.streams := rfl
@[simp] theorem State.setEventRing_watches (n : Fin 4) (d : EventRing) : (s.setEventRing n d).watches = s.watches := rfl
@[simp] theorem State.setEventRing_pool (n : Fin 4) (d : EventRing) : (s.setEventRing n d).pool = s.pool := rfl
@[simp] theorem State.setEventRing_delivery (n : Fin 4) (d : EventRing) : (s.setEventRing n d).delivery = s.delivery := rfl
@[simp] theorem State.setEventRing_alarms (n : Fin 4) (d : EventRing) : (s.setEventRing n d).alarms = s.alarms := rfl
@[simp] theorem State.setEventRing_pinChanges (n : Fin 4) (d : EventRing) :
    (s.setEventRing n d).pinChanges = s.pinChanges ++ pinStep .attn (!attention s) (!attention (s.setEventRing n d)) := rfl
@[simp] theorem State.setEventRing_readData (n : Fin 4) (d : EventRing) : (s.setEventRing n d).readData = s.readData := rfl
@[simp] theorem State.setEventRing_pending (n : Fin 4) (d : EventRing) : (s.setEventRing n d).pending = s.pending := rfl

/-! ## setShadowOwed -/

@[simp] theorem State.setShadowOwed_control (b : Bool) : (s.setShadowOwed b).control = s.control := rfl
@[simp] theorem State.setShadowOwed_mau (b : Bool) : (s.setShadowOwed b).mau = s.mau := rfl
@[simp] theorem State.setShadowOwed_rings (b : Bool) : (s.setShadowOwed b).rings = { s.rings with shadowOwed := b } := rfl
@[simp] theorem State.setShadowOwed_cmd (b : Bool) : (s.setShadowOwed b).cmd = s.cmd := rfl
@[simp] theorem State.setShadowOwed_streams (b : Bool) : (s.setShadowOwed b).streams = s.streams := rfl
@[simp] theorem State.setShadowOwed_watches (b : Bool) : (s.setShadowOwed b).watches = s.watches := rfl
@[simp] theorem State.setShadowOwed_pool (b : Bool) : (s.setShadowOwed b).pool = s.pool := rfl
@[simp] theorem State.setShadowOwed_delivery (b : Bool) : (s.setShadowOwed b).delivery = s.delivery := rfl
@[simp] theorem State.setShadowOwed_alarms (b : Bool) : (s.setShadowOwed b).alarms = s.alarms := rfl
@[simp] theorem State.setShadowOwed_pinChanges (b : Bool) : (s.setShadowOwed b).pinChanges = s.pinChanges := rfl
@[simp] theorem State.setShadowOwed_readData (b : Bool) : (s.setShadowOwed b).readData = s.readData := rfl
@[simp] theorem State.setShadowOwed_pending (b : Bool) : (s.setShadowOwed b).pending = s.pending := rfl

/-! ## setEngine -/

@[simp] theorem State.setEngine_control (e : EngineState) : (s.setEngine e).control = { s.control with engine := e } := rfl
@[simp] theorem State.setEngine_mau (e : EngineState) : (s.setEngine e).mau = s.mau := rfl
@[simp] theorem State.setEngine_rings (e : EngineState) : (s.setEngine e).rings = s.rings := rfl
@[simp] theorem State.setEngine_cmd (e : EngineState) : (s.setEngine e).cmd = s.cmd := rfl
@[simp] theorem State.setEngine_streams (e : EngineState) : (s.setEngine e).streams = s.streams := rfl
@[simp] theorem State.setEngine_watches (e : EngineState) : (s.setEngine e).watches = s.watches := rfl
@[simp] theorem State.setEngine_pool (e : EngineState) : (s.setEngine e).pool = s.pool := rfl
@[simp] theorem State.setEngine_delivery (e : EngineState) : (s.setEngine e).delivery = s.delivery := rfl
@[simp] theorem State.setEngine_alarms (e : EngineState) : (s.setEngine e).alarms = s.alarms := rfl
@[simp] theorem State.setEngine_pinChanges (e : EngineState) : (s.setEngine e).pinChanges = s.pinChanges := rfl
@[simp] theorem State.setEngine_readData (e : EngineState) : (s.setEngine e).readData = s.readData := rfl
@[simp] theorem State.setEngine_pending (e : EngineState) : (s.setEngine e).pending = s.pending := rfl

/-! ## setAccess -/

@[simp] theorem State.setAccess_control (r : Requester) (a : Option Access) : (s.setAccess r a).control = s.control := rfl
@[simp] theorem State.setAccess_mau (r : Requester) (a : Option Access) : (s.setAccess r a).mau = { s.mau with inFlight := s.mau.inFlight.set r a } := rfl
@[simp] theorem State.setAccess_rings (r : Requester) (a : Option Access) : (s.setAccess r a).rings = s.rings := rfl
@[simp] theorem State.setAccess_cmd (r : Requester) (a : Option Access) : (s.setAccess r a).cmd = s.cmd := rfl
@[simp] theorem State.setAccess_streams (r : Requester) (a : Option Access) : (s.setAccess r a).streams = s.streams := rfl
@[simp] theorem State.setAccess_watches (r : Requester) (a : Option Access) : (s.setAccess r a).watches = s.watches := rfl
@[simp] theorem State.setAccess_pool (r : Requester) (a : Option Access) : (s.setAccess r a).pool = s.pool := rfl
@[simp] theorem State.setAccess_delivery (r : Requester) (a : Option Access) : (s.setAccess r a).delivery = s.delivery := rfl
@[simp] theorem State.setAccess_alarms (r : Requester) (a : Option Access) : (s.setAccess r a).alarms = s.alarms := rfl
@[simp] theorem State.setAccess_pinChanges (r : Requester) (a : Option Access) : (s.setAccess r a).pinChanges = s.pinChanges := rfl
@[simp] theorem State.setAccess_readData (r : Requester) (a : Option Access) : (s.setAccess r a).readData = s.readData := rfl
@[simp] theorem State.setAccess_pending (r : Requester) (a : Option Access) : (s.setAccess r a).pending = s.pending := rfl

/-! ## withPending -/

@[simp] theorem State.withPending_control (q : List Instr) : (s.withPending q).control = s.control := rfl
@[simp] theorem State.withPending_mau (q : List Instr) : (s.withPending q).mau = s.mau := rfl
@[simp] theorem State.withPending_rings (q : List Instr) : (s.withPending q).rings = s.rings := rfl
@[simp] theorem State.withPending_cmd (q : List Instr) : (s.withPending q).cmd = s.cmd := rfl
@[simp] theorem State.withPending_streams (q : List Instr) : (s.withPending q).streams = s.streams := rfl
@[simp] theorem State.withPending_watches (q : List Instr) : (s.withPending q).watches = s.watches := rfl
@[simp] theorem State.withPending_pool (q : List Instr) : (s.withPending q).pool = s.pool := rfl
@[simp] theorem State.withPending_delivery (q : List Instr) : (s.withPending q).delivery = s.delivery := rfl
@[simp] theorem State.withPending_alarms (q : List Instr) : (s.withPending q).alarms = s.alarms := rfl
@[simp] theorem State.withPending_pinChanges (q : List Instr) : (s.withPending q).pinChanges = s.pinChanges := rfl
@[simp] theorem State.withPending_readData (q : List Instr) : (s.withPending q).readData = s.readData := rfl
@[simp] theorem State.withPending_pending (q : List Instr) : (s.withPending q).pending = q := rfl

/-! ## Pins (R162, R195) -/

/-- ATTN_N follows the rings and the engine state alone. -/
theorem attention_congr {s t : State} (rings : t.rings = s.rings) (engine : t.control.engine = s.control.engine) :
    attention t = attention s := by
  simp [attention, rings, engine]

/-- A pin that keeps its level changes nothing. -/
@[simp] theorem pinStep_self (p : Pin) (level : Bool) : pinStep p level level = [] := by simp [pinStep]

@[simp] theorem noteAttention_control (t : State) : (noteAttention s t).control = t.control := rfl
@[simp] theorem noteAttention_mau (t : State) : (noteAttention s t).mau = t.mau := rfl
@[simp] theorem noteAttention_rings (t : State) : (noteAttention s t).rings = t.rings := rfl
@[simp] theorem noteAttention_cmd (t : State) : (noteAttention s t).cmd = t.cmd := rfl
@[simp] theorem noteAttention_streams (t : State) : (noteAttention s t).streams = t.streams := rfl
@[simp] theorem noteAttention_watches (t : State) : (noteAttention s t).watches = t.watches := rfl
@[simp] theorem noteAttention_pool (t : State) : (noteAttention s t).pool = t.pool := rfl
@[simp] theorem noteAttention_delivery (t : State) : (noteAttention s t).delivery = t.delivery := rfl
@[simp] theorem noteAttention_alarms (t : State) : (noteAttention s t).alarms = t.alarms := rfl
@[simp] theorem noteAttention_readData (t : State) : (noteAttention s t).readData = t.readData := rfl
@[simp] theorem noteAttention_pending (t : State) : (noteAttention s t).pending = t.pending := rfl

/-- A change of what ATTN_N follows is noted; one that leaves attention as it was is not. -/
@[simp] theorem noteAttention_pinChanges (t : State) :
    (noteAttention s t).pinChanges = t.pinChanges ++ pinStep .attn (!attention s) (!attention t) := rfl

/-- Nothing is noted where nothing has changed. -/
@[simp] theorem noteAttention_self : noteAttention s s = s := by simp [noteAttention]

/-- A ring replaced by itself is no change. -/
@[simp] theorem State.setReplyRing_self : s.setReplyRing s.rings.reply = s := noteAttention_self s

@[simp] theorem State.setSampleRing_self (n : Fin 8) : s.setSampleRing n s.rings.sample[n] = s := by
  simp [State.setSampleRing, State.mapRings]

@[simp] theorem State.setEventRing_self (n : Fin 4) : s.setEventRing n s.rings.event[n] = s := by
  simp [State.setEventRing, State.mapRings]

@[simp] theorem notePins_control (t : State) : (notePins s t).control = t.control := rfl
@[simp] theorem notePins_mau (t : State) : (notePins s t).mau = t.mau := rfl
@[simp] theorem notePins_rings (t : State) : (notePins s t).rings = t.rings := rfl
@[simp] theorem notePins_cmd (t : State) : (notePins s t).cmd = t.cmd := rfl
@[simp] theorem notePins_streams (t : State) : (notePins s t).streams = t.streams := rfl
@[simp] theorem notePins_watches (t : State) : (notePins s t).watches = t.watches := rfl
@[simp] theorem notePins_pool (t : State) : (notePins s t).pool = t.pool := rfl
@[simp] theorem notePins_delivery (t : State) : (notePins s t).delivery = t.delivery := rfl
@[simp] theorem notePins_alarms (t : State) : (notePins s t).alarms = t.alarms := rfl
@[simp] theorem notePins_readData (t : State) : (notePins s t).readData = t.readData := rfl
@[simp] theorem notePins_pending (t : State) : (notePins s t).pending = t.pending := rfl

/-- The changes of all five pins are noted. -/
@[simp] theorem notePins_pinChanges (t : State) :
    (notePins s t).pinChanges = t.pinChanges ++ (pinStep .attn (!attention s) (!attention t) ++
      (List.finRange 4).flatMap fun a => pinStep (.alm a) s.alarms[a].asserted t.alarms[a].asserted) := rfl

/-! ## Accesses -/

theorem State.access_def (r : Requester) : s.access r = s.mau.inFlight[r] := rfl

theorem State.busy_def (r : Requester) : s.busy r = (s.access r).isSome := rfl

/-- An update of one requester's access, read back. -/
theorem State.access_setAccess (r q : Requester) (a : Option Access) :
    (s.setAccess r a).access q = if r = q then a else s.access q := by
  simp only [State.access, State.setAccess, State.mapMau, Fin.getElem_fin, Vector.getElem_set, Fin.ext_iff]

@[simp] theorem State.access_setAccess_self (r : Requester) (a : Option Access) : (s.setAccess r a).access r = a := by
  simp [State.access_setAccess]

theorem State.access_setAccess_ne (r q : Requester) (a : Option Access) (h : r ≠ q) :
    (s.setAccess r a).access q = s.access q := by
  simp [State.access_setAccess, h]

@[simp] theorem State.mapControl_access (f : Control → Control) (r : Requester) : (s.mapControl f).access r = s.access r := rfl
@[simp] theorem State.mapRings_access (f : RingManager → RingManager) (r : Requester) : (s.mapRings f).access r = s.access r := rfl
@[simp] theorem State.setCmd_access (c : CommandEngine) (r : Requester) : (s.setCmd c).access r = s.access r := rfl
@[simp] theorem State.setStream_access (i : Fin 64) (x : Stream) (r : Requester) : (s.setStream i x).access r = s.access r := rfl
@[simp] theorem State.setWatch_access (i : Fin 128) (x : Option Watch) (r : Requester) : (s.setWatch i x).access r = s.access r := rfl
@[simp] theorem State.setPool_access (p : List PendingEntry) (r : Requester) : (s.setPool p).access r = s.access r := rfl
@[simp] theorem State.setDelivery_access (n : Fin 4) (d : Delivery) (r : Requester) : (s.setDelivery n d).access r = s.access r := rfl
@[simp] theorem State.setAlarm_access (a : Fin 4) (l : AlarmLine) (r : Requester) : (s.setAlarm a l).access r = s.access r := rfl
@[simp] theorem State.setCommandRing_access (d : Descriptor) (r : Requester) : (s.setCommandRing d).access r = s.access r := rfl
@[simp] theorem State.setReplyRing_access (d : ReplyRing) (r : Requester) : (s.setReplyRing d).access r = s.access r := rfl
@[simp] theorem State.setSampleRing_access (n : Fin 8) (d : SampleRing) (r : Requester) : (s.setSampleRing n d).access r = s.access r := rfl
@[simp] theorem State.setEventRing_access (n : Fin 4) (d : EventRing) (r : Requester) : (s.setEventRing n d).access r = s.access r := rfl
@[simp] theorem State.setShadowOwed_access (b : Bool) (r : Requester) : (s.setShadowOwed b).access r = s.access r := rfl
@[simp] theorem State.setEngine_access (e : EngineState) (r : Requester) : (s.setEngine e).access r = s.access r := rfl
@[simp] theorem State.withPending_access (q : List Instr) (r : Requester) : (s.withPending q).access r = s.access r := rfl

/-- The accesses are a function of the memory access unit alone. -/
theorem State.access_congr {s t : State} (h : s.mau = t.mau) (r : Requester) : s.access r = t.access r := by
  simp [State.access, h]

end Sys2Proof.Machine
end

