-- ==== Sys2Proof/Laws/Frames.lean ====
section
/-!
SUPPORT. What each shared operation leaves as it was: one lemma for each part of the state the operation never touches, and one that names
the accesses it leaves in flight. Later proofs cite these and unfold no operation to see that a part is unchanged.
-/

namespace Sys2Proof.Machine

/-- A walk over a list keeps what each of its steps keeps. -/
theorem foldl_keeps {α β : Type} (f : State → β) {g : α → State → State} (h : ∀ a t, f (g a t) = f t) (l : List α) (s : State) :
    f (l.foldl (fun t a => g a t) s) = f s := by
  induction l generalizing s with
  | nil => rfl
  | cons a l ih => exact (ih _).trans (h a s)

/-! ## handOver -/

@[simp] theorem handOver_control (r : Requester) (p : Payload) (address : Addr) (s : State) :
    (handOver r p address s).control = s.control := by
  rfl
@[simp] theorem handOver_rings (r : Requester) (p : Payload) (address : Addr) (s : State) : (handOver r p address s).rings = s.rings := by
  rfl
@[simp] theorem handOver_cmd (r : Requester) (p : Payload) (address : Addr) (s : State) : (handOver r p address s).cmd = s.cmd := by rfl
@[simp] theorem handOver_streams (r : Requester) (p : Payload) (address : Addr) (s : State) :
    (handOver r p address s).streams = s.streams := by
  rfl
@[simp] theorem handOver_watches (r : Requester) (p : Payload) (address : Addr) (s : State) :
    (handOver r p address s).watches = s.watches := by
  rfl
@[simp] theorem handOver_pool (r : Requester) (p : Payload) (address : Addr) (s : State) : (handOver r p address s).pool = s.pool := by
  rfl
@[simp] theorem handOver_delivery (r : Requester) (p : Payload) (address : Addr) (s : State) :
    (handOver r p address s).delivery = s.delivery := by
  rfl
@[simp] theorem handOver_alarms (r : Requester) (p : Payload) (address : Addr) (s : State) :
    (handOver r p address s).alarms = s.alarms := by
  rfl
@[simp] theorem handOver_pinChanges (r : Requester) (p : Payload) (address : Addr) (s : State) :
    (handOver r p address s).pinChanges = s.pinChanges := by
  rfl
@[simp] theorem handOver_readData (r : Requester) (p : Payload) (address : Addr) (s : State) :
    (handOver r p address s).readData = s.readData := by
  rfl
@[simp] theorem handOver_pending (r : Requester) (p : Payload) (address : Addr) (s : State) :
    (handOver r p address s).pending = s.pending := by
  rfl
@[simp] theorem handOver_epoch (r : Requester) (p : Payload) (address : Addr) (s : State) :
    (handOver r p address s).mau.epoch = s.mau.epoch := by
  rfl
@[simp] theorem handOver_stale (r : Requester) (p : Payload) (address : Addr) (s : State) :
    (handOver r p address s).mau.stale = s.mau.stale := by
  rfl
@[simp] theorem handOver_lastGranted (r : Requester) (p : Payload) (address : Addr) (s : State) :
    (handOver r p address s).mau.lastGranted = s.mau.lastGranted := by
  rfl
/-- The accesses that this leaves in flight as they were. -/
theorem handOver_access (r : Requester) (p : Payload) (address : Addr) (s : State) (q : Requester) (h : q ≠ r) :
    (handOver r p address s).access q = s.access q := by
  exact State.access_setAccess_ne s _ _ _ h.symm
@[simp] theorem handOver_access_self (r : Requester) (p : Payload) (address : Addr) (s : State) :
    (handOver r p address s).access r = some { payload := p, address := address, epoch := s.mau.epoch, phase := .waiting } := by
  simp [handOver]

/-! ## faultReport -/

@[simp] theorem faultReport_rings (k : FaultKind) (address : Addr) (s : State) : (faultReport k address s).rings = s.rings := by rfl
@[simp] theorem faultReport_cmd (k : FaultKind) (address : Addr) (s : State) : (faultReport k address s).cmd = s.cmd := by rfl
@[simp] theorem faultReport_streams (k : FaultKind) (address : Addr) (s : State) : (faultReport k address s).streams = s.streams := by rfl
@[simp] theorem faultReport_watches (k : FaultKind) (address : Addr) (s : State) : (faultReport k address s).watches = s.watches := by rfl
@[simp] theorem faultReport_pool (k : FaultKind) (address : Addr) (s : State) : (faultReport k address s).pool = s.pool := by rfl
@[simp] theorem faultReport_delivery (k : FaultKind) (address : Addr) (s : State) : (faultReport k address s).delivery = s.delivery := by
  rfl
@[simp] theorem faultReport_alarms (k : FaultKind) (address : Addr) (s : State) : (faultReport k address s).alarms = s.alarms := by rfl
@[simp] theorem faultReport_readData (k : FaultKind) (address : Addr) (s : State) : (faultReport k address s).readData = s.readData := by
  rfl
@[simp] theorem faultReport_pending (k : FaultKind) (address : Addr) (s : State) : (faultReport k address s).pending = s.pending := by rfl
@[simp] theorem faultReport_epoch (k : FaultKind) (address : Addr) (s : State) : (faultReport k address s).mau.epoch = s.mau.epoch := by
  rfl
@[simp] theorem faultReport_stale (k : FaultKind) (address : Addr) (s : State) : (faultReport k address s).mau.stale = s.mau.stale := by
  rfl
@[simp] theorem faultReport_lastGranted (k : FaultKind) (address : Addr) (s : State) :
    (faultReport k address s).mau.lastGranted = s.mau.lastGranted := by
  rfl
/-- The accesses that this leaves in flight as they were. -/
theorem faultReport_access (k : FaultKind) (address : Addr) (s : State) (q : Requester)  :
    (faultReport k address s).access q = s.access q := by
  rfl

/-! ## issueShadowWrite -/

@[simp] theorem issueShadowWrite_control (s : State) : (issueShadowWrite s).control = s.control := by
  unfold issueShadowWrite; split <;> rfl
@[simp] theorem issueShadowWrite_cmd (s : State) : (issueShadowWrite s).cmd = s.cmd := by unfold issueShadowWrite; split <;> rfl
@[simp] theorem issueShadowWrite_streams (s : State) : (issueShadowWrite s).streams = s.streams := by
  unfold issueShadowWrite; split <;> rfl
@[simp] theorem issueShadowWrite_watches (s : State) : (issueShadowWrite s).watches = s.watches := by
  unfold issueShadowWrite; split <;> rfl
@[simp] theorem issueShadowWrite_pool (s : State) : (issueShadowWrite s).pool = s.pool := by unfold issueShadowWrite; split <;> rfl
@[simp] theorem issueShadowWrite_delivery (s : State) : (issueShadowWrite s).delivery = s.delivery := by
  unfold issueShadowWrite; split <;> rfl
@[simp] theorem issueShadowWrite_alarms (s : State) : (issueShadowWrite s).alarms = s.alarms := by unfold issueShadowWrite; split <;> rfl
@[simp] theorem issueShadowWrite_pinChanges (s : State) : (issueShadowWrite s).pinChanges = s.pinChanges := by
  unfold issueShadowWrite; split <;> rfl
@[simp] theorem issueShadowWrite_readData (s : State) : (issueShadowWrite s).readData = s.readData := by
  unfold issueShadowWrite; split <;> rfl
@[simp] theorem issueShadowWrite_pending (s : State) : (issueShadowWrite s).pending = s.pending := by
  unfold issueShadowWrite; split <;> rfl
@[simp] theorem issueShadowWrite_epoch (s : State) : (issueShadowWrite s).mau.epoch = s.mau.epoch := by
  unfold issueShadowWrite; split <;> rfl
@[simp] theorem issueShadowWrite_stale (s : State) : (issueShadowWrite s).mau.stale = s.mau.stale := by
  unfold issueShadowWrite; split <;> rfl
@[simp] theorem issueShadowWrite_lastGranted (s : State) : (issueShadowWrite s).mau.lastGranted = s.mau.lastGranted := by
  unfold issueShadowWrite; split <;> rfl
/-- The accesses that this leaves in flight as they were. -/
theorem issueShadowWrite_access (s : State) (q : Requester) (h : q ≠ shadowRequester) : (issueShadowWrite s).access q = s.access q := by
  unfold issueShadowWrite; split; · exact handOver_access _ _ _ _ q h
  · rfl
@[simp] theorem issueShadowWrite_command (s : State) : (issueShadowWrite s).rings.command = s.rings.command := by
  unfold issueShadowWrite; split <;> rfl
@[simp] theorem issueShadowWrite_reply (s : State) : (issueShadowWrite s).rings.reply = s.rings.reply := by
  unfold issueShadowWrite; split <;> rfl
@[simp] theorem issueShadowWrite_sample (s : State) : (issueShadowWrite s).rings.sample = s.rings.sample := by
  unfold issueShadowWrite; split <;> rfl
@[simp] theorem issueShadowWrite_event (s : State) : (issueShadowWrite s).rings.event = s.rings.event := by
  unfold issueShadowWrite; split <;> rfl
@[simp] theorem issueShadowWrite_shadowAddr (s : State) : (issueShadowWrite s).rings.shadowAddr = s.rings.shadowAddr := by
  unfold issueShadowWrite; split <;> rfl

/-! ## startCommandFetch -/

@[simp] theorem startCommandFetch_control (s : State) : (startCommandFetch s).control = s.control := by
  unfold startCommandFetch; split <;> rfl
@[simp] theorem startCommandFetch_rings (s : State) : (startCommandFetch s).rings = s.rings := by unfold startCommandFetch; split <;> rfl
@[simp] theorem startCommandFetch_streams (s : State) : (startCommandFetch s).streams = s.streams := by
  unfold startCommandFetch; split <;> rfl
@[simp] theorem startCommandFetch_watches (s : State) : (startCommandFetch s).watches = s.watches := by
  unfold startCommandFetch; split <;> rfl
@[simp] theorem startCommandFetch_pool (s : State) : (startCommandFetch s).pool = s.pool := by unfold startCommandFetch; split <;> rfl
@[simp] theorem startCommandFetch_delivery (s : State) : (startCommandFetch s).delivery = s.delivery := by
  unfold startCommandFetch; split <;> rfl
@[simp] theorem startCommandFetch_alarms (s : State) : (startCommandFetch s).alarms = s.alarms := by
  unfold startCommandFetch; split <;> rfl
@[simp] theorem startCommandFetch_pinChanges (s : State) : (startCommandFetch s).pinChanges = s.pinChanges := by
  unfold startCommandFetch; split <;> rfl
@[simp] theorem startCommandFetch_readData (s : State) : (startCommandFetch s).readData = s.readData := by
  unfold startCommandFetch; split <;> rfl
@[simp] theorem startCommandFetch_pending (s : State) : (startCommandFetch s).pending = s.pending := by
  unfold startCommandFetch; split <;> rfl
@[simp] theorem startCommandFetch_epoch (s : State) : (startCommandFetch s).mau.epoch = s.mau.epoch := by
  unfold startCommandFetch; split <;> rfl
@[simp] theorem startCommandFetch_stale (s : State) : (startCommandFetch s).mau.stale = s.mau.stale := by
  unfold startCommandFetch; split <;> rfl
@[simp] theorem startCommandFetch_lastGranted (s : State) : (startCommandFetch s).mau.lastGranted = s.mau.lastGranted := by
  unfold startCommandFetch; split <;> rfl
/-- The accesses that this leaves in flight as they were. -/
theorem startCommandFetch_access (s : State) (q : Requester) (h : q ≠ commandRequester) :
    (startCommandFetch s).access q = s.access q := by
  unfold startCommandFetch; split; · exact handOver_access _ _ _ _ q h
  · rfl

/-! ## startSampleFetch -/

@[simp] theorem startSampleFetch_control (n : Fin 8) (s : State) : (startSampleFetch n s).control = s.control := by
  unfold startSampleFetch; split <;> rfl
@[simp] theorem startSampleFetch_rings (n : Fin 8) (s : State) : (startSampleFetch n s).rings = s.rings := by
  unfold startSampleFetch; split <;> rfl
@[simp] theorem startSampleFetch_cmd (n : Fin 8) (s : State) : (startSampleFetch n s).cmd = s.cmd := by
  unfold startSampleFetch; split <;> rfl
@[simp] theorem startSampleFetch_streams (n : Fin 8) (s : State) : (startSampleFetch n s).streams = s.streams := by
  unfold startSampleFetch; split <;> rfl
@[simp] theorem startSampleFetch_watches (n : Fin 8) (s : State) : (startSampleFetch n s).watches = s.watches := by
  unfold startSampleFetch; split <;> rfl
@[simp] theorem startSampleFetch_pool (n : Fin 8) (s : State) : (startSampleFetch n s).pool = s.pool := by
  unfold startSampleFetch; split <;> rfl
@[simp] theorem startSampleFetch_delivery (n : Fin 8) (s : State) : (startSampleFetch n s).delivery = s.delivery := by
  unfold startSampleFetch; split <;> rfl
@[simp] theorem startSampleFetch_alarms (n : Fin 8) (s : State) : (startSampleFetch n s).alarms = s.alarms := by
  unfold startSampleFetch; split <;> rfl
@[simp] theorem startSampleFetch_pinChanges (n : Fin 8) (s : State) : (startSampleFetch n s).pinChanges = s.pinChanges := by
  unfold startSampleFetch; split <;> rfl
@[simp] theorem startSampleFetch_readData (n : Fin 8) (s : State) : (startSampleFetch n s).readData = s.readData := by
  unfold startSampleFetch; split <;> rfl
@[simp] theorem startSampleFetch_pending (n : Fin 8) (s : State) : (startSampleFetch n s).pending = s.pending := by
  unfold startSampleFetch; split <;> rfl
@[simp] theorem startSampleFetch_epoch (n : Fin 8) (s : State) : (startSampleFetch n s).mau.epoch = s.mau.epoch := by
  unfold startSampleFetch; split <;> rfl
@[simp] theorem startSampleFetch_stale (n : Fin 8) (s : State) : (startSampleFetch n s).mau.stale = s.mau.stale := by
  unfold startSampleFetch; split <;> rfl
@[simp] theorem startSampleFetch_lastGranted (n : Fin 8) (s : State) : (startSampleFetch n s).mau.lastGranted = s.mau.lastGranted := by
  unfold startSampleFetch; split <;> rfl
/-- The accesses that this leaves in flight as they were. -/
theorem startSampleFetch_access (n : Fin 8) (s : State) (q : Requester) (h : q ≠ sampleRequester n) :
    (startSampleFetch n s).access q = s.access q := by
  unfold startSampleFetch; split; · exact handOver_access _ _ _ _ q h
  · rfl

/-! ## startSampleFetches -/

@[simp] theorem startSampleFetches_control (s : State) : (startSampleFetches s).control = s.control := by
  unfold startSampleFetches; exact foldl_keeps (fun t : State => t.control) (fun n t => startSampleFetch_control n t) _ s
@[simp] theorem startSampleFetches_rings (s : State) : (startSampleFetches s).rings = s.rings := by
  unfold startSampleFetches; exact foldl_keeps (fun t : State => t.rings) (fun n t => startSampleFetch_rings n t) _ s
@[simp] theorem startSampleFetches_cmd (s : State) : (startSampleFetches s).cmd = s.cmd := by
  unfold startSampleFetches; exact foldl_keeps (fun t : State => t.cmd) (fun n t => startSampleFetch_cmd n t) _ s
@[simp] theorem startSampleFetches_streams (s : State) : (startSampleFetches s).streams = s.streams := by
  unfold startSampleFetches; exact foldl_keeps (fun t : State => t.streams) (fun n t => startSampleFetch_streams n t) _ s
@[simp] theorem startSampleFetches_watches (s : State) : (startSampleFetches s).watches = s.watches := by
  unfold startSampleFetches; exact foldl_keeps (fun t : State => t.watches) (fun n t => startSampleFetch_watches n t) _ s
@[simp] theorem startSampleFetches_pool (s : State) : (startSampleFetches s).pool = s.pool := by
  unfold startSampleFetches; exact foldl_keeps (fun t : State => t.pool) (fun n t => startSampleFetch_pool n t) _ s
@[simp] theorem startSampleFetches_delivery (s : State) : (startSampleFetches s).delivery = s.delivery := by
  unfold startSampleFetches; exact foldl_keeps (fun t : State => t.delivery) (fun n t => startSampleFetch_delivery n t) _ s
@[simp] theorem startSampleFetches_alarms (s : State) : (startSampleFetches s).alarms = s.alarms := by
  unfold startSampleFetches; exact foldl_keeps (fun t : State => t.alarms) (fun n t => startSampleFetch_alarms n t) _ s
@[simp] theorem startSampleFetches_pinChanges (s : State) : (startSampleFetches s).pinChanges = s.pinChanges := by
  unfold startSampleFetches; exact foldl_keeps (fun t : State => t.pinChanges) (fun n t => startSampleFetch_pinChanges n t) _ s
@[simp] theorem startSampleFetches_readData (s : State) : (startSampleFetches s).readData = s.readData := by
  unfold startSampleFetches; exact foldl_keeps (fun t : State => t.readData) (fun n t => startSampleFetch_readData n t) _ s
@[simp] theorem startSampleFetches_pending (s : State) : (startSampleFetches s).pending = s.pending := by
  unfold startSampleFetches; exact foldl_keeps (fun t : State => t.pending) (fun n t => startSampleFetch_pending n t) _ s
@[simp] theorem startSampleFetches_epoch (s : State) : (startSampleFetches s).mau.epoch = s.mau.epoch := by
  unfold startSampleFetches; exact foldl_keeps (fun t : State => t.mau.epoch) (fun n t => startSampleFetch_epoch n t) _ s
@[simp] theorem startSampleFetches_stale (s : State) : (startSampleFetches s).mau.stale = s.mau.stale := by
  unfold startSampleFetches; exact foldl_keeps (fun t : State => t.mau.stale) (fun n t => startSampleFetch_stale n t) _ s
@[simp] theorem startSampleFetches_lastGranted (s : State) : (startSampleFetches s).mau.lastGranted = s.mau.lastGranted := by
  unfold startSampleFetches; exact foldl_keeps (fun t : State => t.mau.lastGranted) (fun n t => startSampleFetch_lastGranted n t) _ s
/-- The accesses that this leaves in flight as they were. -/
theorem startSampleFetches_access (s : State) (q : Requester) (h : ∀ n, q ≠ sampleRequester n) :
    (startSampleFetches s).access q = s.access q := by
  unfold startSampleFetches; exact foldl_keeps (fun t : State => t.access q) (fun n t => startSampleFetch_access n t q (h n)) _ s

/-! ## checkWriter -/

@[simp] theorem checkWriter_control (n : Fin 4) (s : State) : (checkWriter n s).control = s.control := by
  unfold checkWriter; (repeat' split) <;> rfl
@[simp] theorem checkWriter_rings (n : Fin 4) (s : State) : (checkWriter n s).rings = s.rings := by
  unfold checkWriter; (repeat' split) <;> rfl
@[simp] theorem checkWriter_cmd (n : Fin 4) (s : State) : (checkWriter n s).cmd = s.cmd := by unfold checkWriter; (repeat' split) <;> rfl
@[simp] theorem checkWriter_streams (n : Fin 4) (s : State) : (checkWriter n s).streams = s.streams := by
  unfold checkWriter; (repeat' split) <;> rfl
@[simp] theorem checkWriter_watches (n : Fin 4) (s : State) : (checkWriter n s).watches = s.watches := by
  unfold checkWriter; (repeat' split) <;> rfl
@[simp] theorem checkWriter_delivery (n : Fin 4) (s : State) : (checkWriter n s).delivery = s.delivery := by
  unfold checkWriter; (repeat' split) <;> rfl
@[simp] theorem checkWriter_alarms (n : Fin 4) (s : State) : (checkWriter n s).alarms = s.alarms := by
  unfold checkWriter; (repeat' split) <;> rfl
@[simp] theorem checkWriter_pinChanges (n : Fin 4) (s : State) : (checkWriter n s).pinChanges = s.pinChanges := by
  unfold checkWriter; (repeat' split) <;> rfl
@[simp] theorem checkWriter_readData (n : Fin 4) (s : State) : (checkWriter n s).readData = s.readData := by
  unfold checkWriter; (repeat' split) <;> rfl
@[simp] theorem checkWriter_pending (n : Fin 4) (s : State) : (checkWriter n s).pending = s.pending := by
  unfold checkWriter; (repeat' split) <;> rfl
@[simp] theorem checkWriter_epoch (n : Fin 4) (s : State) : (checkWriter n s).mau.epoch = s.mau.epoch := by
  unfold checkWriter; (repeat' split) <;> rfl
@[simp] theorem checkWriter_stale (n : Fin 4) (s : State) : (checkWriter n s).mau.stale = s.mau.stale := by
  unfold checkWriter; (repeat' split) <;> rfl
@[simp] theorem checkWriter_lastGranted (n : Fin 4) (s : State) : (checkWriter n s).mau.lastGranted = s.mau.lastGranted := by
  unfold checkWriter; (repeat' split) <;> rfl
/-- The accesses that this leaves in flight as they were. -/
theorem checkWriter_access (n : Fin 4) (s : State) (q : Requester) (h : q ≠ eventRequester n) :
    (checkWriter n s).access q = s.access q := by
  unfold checkWriter; (repeat' split) <;> first | exact handOver_access _ _ _ _ q h | rfl

/-! ## checkWriters -/

@[simp] theorem checkWriters_control (s : State) : (checkWriters s).control = s.control := by
  unfold checkWriters; exact foldl_keeps (fun t : State => t.control) (fun n t => checkWriter_control n t) _ s
@[simp] theorem checkWriters_rings (s : State) : (checkWriters s).rings = s.rings := by
  unfold checkWriters; exact foldl_keeps (fun t : State => t.rings) (fun n t => checkWriter_rings n t) _ s
@[simp] theorem checkWriters_cmd (s : State) : (checkWriters s).cmd = s.cmd := by
  unfold checkWriters; exact foldl_keeps (fun t : State => t.cmd) (fun n t => checkWriter_cmd n t) _ s
@[simp] theorem checkWriters_streams (s : State) : (checkWriters s).streams = s.streams := by
  unfold checkWriters; exact foldl_keeps (fun t : State => t.streams) (fun n t => checkWriter_streams n t) _ s
@[simp] theorem checkWriters_watches (s : State) : (checkWriters s).watches = s.watches := by
  unfold checkWriters; exact foldl_keeps (fun t : State => t.watches) (fun n t => checkWriter_watches n t) _ s
@[simp] theorem checkWriters_delivery (s : State) : (checkWriters s).delivery = s.delivery := by
  unfold checkWriters; exact foldl_keeps (fun t : State => t.delivery) (fun n t => checkWriter_delivery n t) _ s
@[simp] theorem checkWriters_alarms (s : State) : (checkWriters s).alarms = s.alarms := by
  unfold checkWriters; exact foldl_keeps (fun t : State => t.alarms) (fun n t => checkWriter_alarms n t) _ s
@[simp] theorem checkWriters_pinChanges (s : State) : (checkWriters s).pinChanges = s.pinChanges := by
  unfold checkWriters; exact foldl_keeps (fun t : State => t.pinChanges) (fun n t => checkWriter_pinChanges n t) _ s
@[simp] theorem checkWriters_readData (s : State) : (checkWriters s).readData = s.readData := by
  unfold checkWriters; exact foldl_keeps (fun t : State => t.readData) (fun n t => checkWriter_readData n t) _ s
@[simp] theorem checkWriters_pending (s : State) : (checkWriters s).pending = s.pending := by
  unfold checkWriters; exact foldl_keeps (fun t : State => t.pending) (fun n t => checkWriter_pending n t) _ s
@[simp] theorem checkWriters_epoch (s : State) : (checkWriters s).mau.epoch = s.mau.epoch := by
  unfold checkWriters; exact foldl_keeps (fun t : State => t.mau.epoch) (fun n t => checkWriter_epoch n t) _ s
@[simp] theorem checkWriters_stale (s : State) : (checkWriters s).mau.stale = s.mau.stale := by
  unfold checkWriters; exact foldl_keeps (fun t : State => t.mau.stale) (fun n t => checkWriter_stale n t) _ s
@[simp] theorem checkWriters_lastGranted (s : State) : (checkWriters s).mau.lastGranted = s.mau.lastGranted := by
  unfold checkWriters; exact foldl_keeps (fun t : State => t.mau.lastGranted) (fun n t => checkWriter_lastGranted n t) _ s
/-- The accesses that this leaves in flight as they were. -/
theorem checkWriters_access (s : State) (q : Requester) (h : ∀ n, q ≠ eventRequester n) : (checkWriters s).access q = s.access q := by
  unfold checkWriters; exact foldl_keeps (fun t : State => t.access q) (fun n t => checkWriter_access n t q (h n)) _ s

/-! ## handEvent -/

@[simp] theorem handEvent_control (e : Event) (s : State) : (handEvent e s).control = s.control := by
  unfold handEvent; (repeat' split) <;> simp
@[simp] theorem handEvent_rings (e : Event) (s : State) : (handEvent e s).rings = s.rings := by unfold handEvent; (repeat' split) <;> simp
@[simp] theorem handEvent_cmd (e : Event) (s : State) : (handEvent e s).cmd = s.cmd := by unfold handEvent; (repeat' split) <;> simp
@[simp] theorem handEvent_streams (e : Event) (s : State) : (handEvent e s).streams = s.streams := by
  unfold handEvent; (repeat' split) <;> simp
@[simp] theorem handEvent_watches (e : Event) (s : State) : (handEvent e s).watches = s.watches := by
  unfold handEvent; (repeat' split) <;> simp
@[simp] theorem handEvent_alarms (e : Event) (s : State) : (handEvent e s).alarms = s.alarms := by
  unfold handEvent; (repeat' split) <;> simp
@[simp] theorem handEvent_pinChanges (e : Event) (s : State) : (handEvent e s).pinChanges = s.pinChanges := by
  unfold handEvent; (repeat' split) <;> simp
@[simp] theorem handEvent_readData (e : Event) (s : State) : (handEvent e s).readData = s.readData := by
  unfold handEvent; (repeat' split) <;> simp
@[simp] theorem handEvent_pending (e : Event) (s : State) : (handEvent e s).pending = s.pending := by
  unfold handEvent; (repeat' split) <;> simp
@[simp] theorem handEvent_epoch (e : Event) (s : State) : (handEvent e s).mau.epoch = s.mau.epoch := by
  unfold handEvent; (repeat' split) <;> simp
@[simp] theorem handEvent_stale (e : Event) (s : State) : (handEvent e s).mau.stale = s.mau.stale := by
  unfold handEvent; (repeat' split) <;> simp
@[simp] theorem handEvent_lastGranted (e : Event) (s : State) : (handEvent e s).mau.lastGranted = s.mau.lastGranted := by
  unfold handEvent; (repeat' split) <;> simp
/-- The accesses that this leaves in flight as they were. -/
theorem handEvent_access (e : Event) (s : State) (q : Requester) (h : ∀ n, q ≠ eventRequester n) :
    (handEvent e s).access q = s.access q := by
  unfold handEvent; (repeat' split) <;> exact checkWriter_access _ _ q (h _)

/-! ## withdraw -/

@[simp] theorem withdraw_control (x : Source) (s : State) : (withdraw x s).control = s.control := by rfl
@[simp] theorem withdraw_rings (x : Source) (s : State) : (withdraw x s).rings = s.rings := by rfl
@[simp] theorem withdraw_cmd (x : Source) (s : State) : (withdraw x s).cmd = s.cmd := by rfl
@[simp] theorem withdraw_streams (x : Source) (s : State) : (withdraw x s).streams = s.streams := by rfl
@[simp] theorem withdraw_watches (x : Source) (s : State) : (withdraw x s).watches = s.watches := by rfl
@[simp] theorem withdraw_delivery (x : Source) (s : State) : (withdraw x s).delivery = s.delivery := by rfl
@[simp] theorem withdraw_alarms (x : Source) (s : State) : (withdraw x s).alarms = s.alarms := by rfl
@[simp] theorem withdraw_pinChanges (x : Source) (s : State) : (withdraw x s).pinChanges = s.pinChanges := by rfl
@[simp] theorem withdraw_readData (x : Source) (s : State) : (withdraw x s).readData = s.readData := by rfl
@[simp] theorem withdraw_pending (x : Source) (s : State) : (withdraw x s).pending = s.pending := by rfl
@[simp] theorem withdraw_epoch (x : Source) (s : State) : (withdraw x s).mau.epoch = s.mau.epoch := by rfl
@[simp] theorem withdraw_stale (x : Source) (s : State) : (withdraw x s).mau.stale = s.mau.stale := by rfl
@[simp] theorem withdraw_lastGranted (x : Source) (s : State) : (withdraw x s).mau.lastGranted = s.mau.lastGranted := by rfl
/-- The accesses that this leaves in flight as they were. -/
theorem withdraw_access (x : Source) (s : State) (q : Requester)  : (withdraw x s).access q = s.access q := by rfl

/-! ## raiseLevel -/

@[simp] theorem raiseLevel_control (x : Source) (l : Level) (s : State) : (raiseLevel x l s).control = s.control := by
  unfold raiseLevel; split <;> simp
@[simp] theorem raiseLevel_rings (x : Source) (l : Level) (s : State) : (raiseLevel x l s).rings = s.rings := by
  unfold raiseLevel; split <;> simp
@[simp] theorem raiseLevel_cmd (x : Source) (l : Level) (s : State) : (raiseLevel x l s).cmd = s.cmd := by
  unfold raiseLevel; split <;> simp
@[simp] theorem raiseLevel_streams (x : Source) (l : Level) (s : State) : (raiseLevel x l s).streams = s.streams := by
  unfold raiseLevel; split <;> simp
@[simp] theorem raiseLevel_watches (x : Source) (l : Level) (s : State) : (raiseLevel x l s).watches = s.watches := by
  unfold raiseLevel; split <;> simp
@[simp] theorem raiseLevel_delivery (x : Source) (l : Level) (s : State) : (raiseLevel x l s).delivery = s.delivery := by
  unfold raiseLevel; split <;> simp
@[simp] theorem raiseLevel_alarms (x : Source) (l : Level) (s : State) : (raiseLevel x l s).alarms = s.alarms := by
  unfold raiseLevel; split <;> simp
@[simp] theorem raiseLevel_pinChanges (x : Source) (l : Level) (s : State) : (raiseLevel x l s).pinChanges = s.pinChanges := by
  unfold raiseLevel; split <;> simp
@[simp] theorem raiseLevel_readData (x : Source) (l : Level) (s : State) : (raiseLevel x l s).readData = s.readData := by
  unfold raiseLevel; split <;> simp
@[simp] theorem raiseLevel_pending (x : Source) (l : Level) (s : State) : (raiseLevel x l s).pending = s.pending := by
  unfold raiseLevel; split <;> simp
@[simp] theorem raiseLevel_epoch (x : Source) (l : Level) (s : State) : (raiseLevel x l s).mau.epoch = s.mau.epoch := by
  unfold raiseLevel; split <;> simp
@[simp] theorem raiseLevel_stale (x : Source) (l : Level) (s : State) : (raiseLevel x l s).mau.stale = s.mau.stale := by
  unfold raiseLevel; split <;> simp
@[simp] theorem raiseLevel_lastGranted (x : Source) (l : Level) (s : State) : (raiseLevel x l s).mau.lastGranted = s.mau.lastGranted := by
  unfold raiseLevel; split <;> simp
/-- The accesses that this leaves in flight as they were. -/
theorem raiseLevel_access (x : Source) (l : Level) (s : State) (q : Requester) (h : ∀ n, q ≠ eventRequester n) :
    (raiseLevel x l s).access q = s.access q := by
  unfold raiseLevel; split; · exact checkWriter_access _ _ q (h _)
  · rfl

/-! ## beginContribution -/

@[simp] theorem beginContribution_control (line : Option (Fin 4)) (s : State) : (beginContribution line s).control = s.control := by
  cases line <;> rfl
@[simp] theorem beginContribution_rings (line : Option (Fin 4)) (s : State) : (beginContribution line s).rings = s.rings := by
  cases line <;> rfl
@[simp] theorem beginContribution_cmd (line : Option (Fin 4)) (s : State) : (beginContribution line s).cmd = s.cmd := by
  cases line <;> rfl
@[simp] theorem beginContribution_streams (line : Option (Fin 4)) (s : State) : (beginContribution line s).streams = s.streams := by
  cases line <;> rfl
@[simp] theorem beginContribution_watches (line : Option (Fin 4)) (s : State) : (beginContribution line s).watches = s.watches := by
  cases line <;> rfl
@[simp] theorem beginContribution_pool (line : Option (Fin 4)) (s : State) : (beginContribution line s).pool = s.pool := by
  cases line <;> rfl
@[simp] theorem beginContribution_delivery (line : Option (Fin 4)) (s : State) : (beginContribution line s).delivery = s.delivery := by
  cases line <;> rfl
@[simp] theorem beginContribution_readData (line : Option (Fin 4)) (s : State) : (beginContribution line s).readData = s.readData := by
  cases line <;> rfl
@[simp] theorem beginContribution_pending (line : Option (Fin 4)) (s : State) : (beginContribution line s).pending = s.pending := by
  cases line <;> rfl
@[simp] theorem beginContribution_epoch (line : Option (Fin 4)) (s : State) : (beginContribution line s).mau.epoch = s.mau.epoch := by
  cases line <;> rfl
@[simp] theorem beginContribution_stale (line : Option (Fin 4)) (s : State) : (beginContribution line s).mau.stale = s.mau.stale := by
  cases line <;> rfl
@[simp] theorem beginContribution_lastGranted (line : Option (Fin 4)) (s : State) :
    (beginContribution line s).mau.lastGranted = s.mau.lastGranted := by
  cases line <;> rfl
/-- The accesses that this leaves in flight as they were. -/
theorem beginContribution_access (line : Option (Fin 4)) (s : State) (q : Requester)  :
    (beginContribution line s).access q = s.access q := by
  cases line <;> rfl

/-! ## endContribution -/

@[simp] theorem endContribution_control (line : Option (Fin 4)) (s : State) : (endContribution line s).control = s.control := by
  cases line <;> rfl
@[simp] theorem endContribution_rings (line : Option (Fin 4)) (s : State) : (endContribution line s).rings = s.rings := by
  cases line <;> rfl
@[simp] theorem endContribution_cmd (line : Option (Fin 4)) (s : State) : (endContribution line s).cmd = s.cmd := by cases line <;> rfl
@[simp] theorem endContribution_streams (line : Option (Fin 4)) (s : State) : (endContribution line s).streams = s.streams := by
  cases line <;> rfl
@[simp] theorem endContribution_watches (line : Option (Fin 4)) (s : State) : (endContribution line s).watches = s.watches := by
  cases line <;> rfl
@[simp] theorem endContribution_pool (line : Option (Fin 4)) (s : State) : (endContribution line s).pool = s.pool := by cases line <;> rfl
@[simp] theorem endContribution_delivery (line : Option (Fin 4)) (s : State) : (endContribution line s).delivery = s.delivery := by
  cases line <;> rfl
@[simp] theorem endContribution_readData (line : Option (Fin 4)) (s : State) : (endContribution line s).readData = s.readData := by
  cases line <;> rfl
@[simp] theorem endContribution_pending (line : Option (Fin 4)) (s : State) : (endContribution line s).pending = s.pending := by
  cases line <;> rfl
@[simp] theorem endContribution_epoch (line : Option (Fin 4)) (s : State) : (endContribution line s).mau.epoch = s.mau.epoch := by
  cases line <;> rfl
@[simp] theorem endContribution_stale (line : Option (Fin 4)) (s : State) : (endContribution line s).mau.stale = s.mau.stale := by
  cases line <;> rfl
@[simp] theorem endContribution_lastGranted (line : Option (Fin 4)) (s : State) :
    (endContribution line s).mau.lastGranted = s.mau.lastGranted := by
  cases line <;> rfl
/-- The accesses that this leaves in flight as they were. -/
theorem endContribution_access (line : Option (Fin 4)) (s : State) (q : Requester)  : (endContribution line s).access q = s.access q := by
  cases line <;> rfl

/-! ## handWatchEvent -/

@[simp] theorem handWatchEvent_control (w : Watch) (id : Fin 128) (k : EventKind) (v : Word) (x : Seq) (z : Time) (fb : Bool) (s : State) :
    (handWatchEvent w id k v x z fb s).control = s.control := by
  unfold handWatchEvent; split <;> simp
@[simp] theorem handWatchEvent_rings (w : Watch) (id : Fin 128) (k : EventKind) (v : Word) (x : Seq) (z : Time) (fb : Bool) (s : State) :
    (handWatchEvent w id k v x z fb s).rings = s.rings := by
  unfold handWatchEvent; split <;> simp
@[simp] theorem handWatchEvent_cmd (w : Watch) (id : Fin 128) (k : EventKind) (v : Word) (x : Seq) (z : Time) (fb : Bool) (s : State) :
    (handWatchEvent w id k v x z fb s).cmd = s.cmd := by
  unfold handWatchEvent; split <;> simp
@[simp] theorem handWatchEvent_streams (w : Watch) (id : Fin 128) (k : EventKind) (v : Word) (x : Seq) (z : Time) (fb : Bool) (s : State) :
    (handWatchEvent w id k v x z fb s).streams = s.streams := by
  unfold handWatchEvent; split <;> simp
@[simp] theorem handWatchEvent_watches (w : Watch) (id : Fin 128) (k : EventKind) (v : Word) (x : Seq) (z : Time) (fb : Bool) (s : State) :
    (handWatchEvent w id k v x z fb s).watches = s.watches := by
  unfold handWatchEvent; split <;> simp
@[simp] theorem handWatchEvent_alarms (w : Watch) (id : Fin 128) (k : EventKind) (v : Word) (x : Seq) (z : Time) (fb : Bool) (s : State) :
    (handWatchEvent w id k v x z fb s).alarms = s.alarms := by
  unfold handWatchEvent; split <;> simp
@[simp] theorem handWatchEvent_pinChanges (w : Watch) (id : Fin 128) (k : EventKind) (v : Word) (x : Seq) (z : Time) (fb : Bool) (s : State) :
    (handWatchEvent w id k v x z fb s).pinChanges = s.pinChanges := by
  unfold handWatchEvent; split <;> simp
@[simp] theorem handWatchEvent_readData (w : Watch) (id : Fin 128) (k : EventKind) (v : Word) (x : Seq) (z : Time) (fb : Bool) (s : State) :
    (handWatchEvent w id k v x z fb s).readData = s.readData := by
  unfold handWatchEvent; split <;> simp
@[simp] theorem handWatchEvent_pending (w : Watch) (id : Fin 128) (k : EventKind) (v : Word) (x : Seq) (z : Time) (fb : Bool) (s : State) :
    (handWatchEvent w id k v x z fb s).pending = s.pending := by
  unfold handWatchEvent; split <;> simp
@[simp] theorem handWatchEvent_epoch (w : Watch) (id : Fin 128) (k : EventKind) (v : Word) (x : Seq) (z : Time) (fb : Bool) (s : State) :
    (handWatchEvent w id k v x z fb s).mau.epoch = s.mau.epoch := by
  unfold handWatchEvent; split <;> simp
@[simp] theorem handWatchEvent_stale (w : Watch) (id : Fin 128) (k : EventKind) (v : Word) (x : Seq) (z : Time) (fb : Bool) (s : State) :
    (handWatchEvent w id k v x z fb s).mau.stale = s.mau.stale := by
  unfold handWatchEvent; split <;> simp
@[simp] theorem handWatchEvent_lastGranted (w : Watch) (id : Fin 128) (k : EventKind) (v : Word) (x : Seq) (z : Time) (fb : Bool) (s : State) :
    (handWatchEvent w id k v x z fb s).mau.lastGranted = s.mau.lastGranted := by
  unfold handWatchEvent; split <;> simp
/-- The accesses that this leaves in flight as they were. -/
theorem handWatchEvent_access (w : Watch) (id : Fin 128) (k : EventKind) (v : Word) (x : Seq) (z : Time) (fb : Bool) (s : State) (q : Requester) (h : ∀ n, q ≠ eventRequester n) :
    (handWatchEvent w id k v x z fb s).access q = s.access q := by
  unfold handWatchEvent; split; · exact handEvent_access _ _ q h
  · rfl

/-! ## moveWatch -/

@[simp] theorem moveWatch_control (id : Fin 128) (w : Watch) (c : Crossing) (v : Word) (x : Seq) (z : Time) (fb : Bool) (s : State) :
    (moveWatch id w c v x z fb s).control = s.control := by
  unfold moveWatch; cases c <;> simp
@[simp] theorem moveWatch_rings (id : Fin 128) (w : Watch) (c : Crossing) (v : Word) (x : Seq) (z : Time) (fb : Bool) (s : State) :
    (moveWatch id w c v x z fb s).rings = s.rings := by
  unfold moveWatch; cases c <;> simp
@[simp] theorem moveWatch_cmd (id : Fin 128) (w : Watch) (c : Crossing) (v : Word) (x : Seq) (z : Time) (fb : Bool) (s : State) :
    (moveWatch id w c v x z fb s).cmd = s.cmd := by
  unfold moveWatch; cases c <;> simp
@[simp] theorem moveWatch_streams (id : Fin 128) (w : Watch) (c : Crossing) (v : Word) (x : Seq) (z : Time) (fb : Bool) (s : State) :
    (moveWatch id w c v x z fb s).streams = s.streams := by
  unfold moveWatch; cases c <;> simp
@[simp] theorem moveWatch_readData (id : Fin 128) (w : Watch) (c : Crossing) (v : Word) (x : Seq) (z : Time) (fb : Bool) (s : State) :
    (moveWatch id w c v x z fb s).readData = s.readData := by
  unfold moveWatch; cases c <;> simp
@[simp] theorem moveWatch_pending (id : Fin 128) (w : Watch) (c : Crossing) (v : Word) (x : Seq) (z : Time) (fb : Bool) (s : State) :
    (moveWatch id w c v x z fb s).pending = s.pending := by
  unfold moveWatch; cases c <;> simp
@[simp] theorem moveWatch_epoch (id : Fin 128) (w : Watch) (c : Crossing) (v : Word) (x : Seq) (z : Time) (fb : Bool) (s : State) :
    (moveWatch id w c v x z fb s).mau.epoch = s.mau.epoch := by
  unfold moveWatch; cases c <;> simp
@[simp] theorem moveWatch_stale (id : Fin 128) (w : Watch) (c : Crossing) (v : Word) (x : Seq) (z : Time) (fb : Bool) (s : State) :
    (moveWatch id w c v x z fb s).mau.stale = s.mau.stale := by
  unfold moveWatch; cases c <;> simp
@[simp] theorem moveWatch_lastGranted (id : Fin 128) (w : Watch) (c : Crossing) (v : Word) (x : Seq) (z : Time) (fb : Bool) (s : State) :
    (moveWatch id w c v x z fb s).mau.lastGranted = s.mau.lastGranted := by
  unfold moveWatch; cases c <;> simp
/-- The accesses that this leaves in flight as they were. -/
theorem moveWatch_access (id : Fin 128) (w : Watch) (c : Crossing) (v : Word) (x : Seq) (z : Time) (fb : Bool) (s : State) (q : Requester) (h : ∀ n, q ≠ eventRequester n) :
    (moveWatch id w c v x z fb s).access q = s.access q := by
  unfold moveWatch; cases c
  · rfl
  · exact (beginContribution_access _ _ q).trans (handWatchEvent_access _ _ _ _ _ _ _ _ q h)
  · exact (endContribution_access _ _ q).trans (handWatchEvent_access _ _ _ _ _ _ _ _ q h)

/-! ## judge -/

@[simp] theorem judge_control (r : EvalRequest) (id : Fin 128) (s : State) : (judge r id s).control = s.control := by
  unfold judge; (repeat' split) <;> simp
@[simp] theorem judge_rings (r : EvalRequest) (id : Fin 128) (s : State) : (judge r id s).rings = s.rings := by
  unfold judge; (repeat' split) <;> simp
@[simp] theorem judge_cmd (r : EvalRequest) (id : Fin 128) (s : State) : (judge r id s).cmd = s.cmd := by
  unfold judge; (repeat' split) <;> simp
@[simp] theorem judge_streams (r : EvalRequest) (id : Fin 128) (s : State) : (judge r id s).streams = s.streams := by
  unfold judge; (repeat' split) <;> simp
@[simp] theorem judge_readData (r : EvalRequest) (id : Fin 128) (s : State) : (judge r id s).readData = s.readData := by
  unfold judge; (repeat' split) <;> simp
@[simp] theorem judge_pending (r : EvalRequest) (id : Fin 128) (s : State) : (judge r id s).pending = s.pending := by
  unfold judge; (repeat' split) <;> simp
@[simp] theorem judge_epoch (r : EvalRequest) (id : Fin 128) (s : State) : (judge r id s).mau.epoch = s.mau.epoch := by
  unfold judge; (repeat' split) <;> simp
@[simp] theorem judge_stale (r : EvalRequest) (id : Fin 128) (s : State) : (judge r id s).mau.stale = s.mau.stale := by
  unfold judge; (repeat' split) <;> simp
@[simp] theorem judge_lastGranted (r : EvalRequest) (id : Fin 128) (s : State) : (judge r id s).mau.lastGranted = s.mau.lastGranted := by
  unfold judge; (repeat' split) <;> simp
/-- The accesses that this leaves in flight as they were. -/
theorem judge_access (r : EvalRequest) (id : Fin 128) (s : State) (q : Requester) (h : ∀ n, q ≠ eventRequester n) :
    (judge r id s).access q = s.access q := by
  unfold judge; (repeat' split) <;> first | rfl | exact moveWatch_access _ _ _ _ _ _ _ _ q h

/-! ## evaluate -/

@[simp] theorem evaluate_control (r : EvalRequest) (s : State) : (evaluate r s).control = s.control := by
  unfold evaluate; exact foldl_keeps (fun t : State => t.control) (fun id t => judge_control r id t) _ s
@[simp] theorem evaluate_rings (r : EvalRequest) (s : State) : (evaluate r s).rings = s.rings := by
  unfold evaluate; exact foldl_keeps (fun t : State => t.rings) (fun id t => judge_rings r id t) _ s
@[simp] theorem evaluate_cmd (r : EvalRequest) (s : State) : (evaluate r s).cmd = s.cmd := by
  unfold evaluate; exact foldl_keeps (fun t : State => t.cmd) (fun id t => judge_cmd r id t) _ s
@[simp] theorem evaluate_streams (r : EvalRequest) (s : State) : (evaluate r s).streams = s.streams := by
  unfold evaluate; exact foldl_keeps (fun t : State => t.streams) (fun id t => judge_streams r id t) _ s
@[simp] theorem evaluate_readData (r : EvalRequest) (s : State) : (evaluate r s).readData = s.readData := by
  unfold evaluate; exact foldl_keeps (fun t : State => t.readData) (fun id t => judge_readData r id t) _ s
@[simp] theorem evaluate_pending (r : EvalRequest) (s : State) : (evaluate r s).pending = s.pending := by
  unfold evaluate; exact foldl_keeps (fun t : State => t.pending) (fun id t => judge_pending r id t) _ s
@[simp] theorem evaluate_epoch (r : EvalRequest) (s : State) : (evaluate r s).mau.epoch = s.mau.epoch := by
  unfold evaluate; exact foldl_keeps (fun t : State => t.mau.epoch) (fun id t => judge_epoch r id t) _ s
@[simp] theorem evaluate_stale (r : EvalRequest) (s : State) : (evaluate r s).mau.stale = s.mau.stale := by
  unfold evaluate; exact foldl_keeps (fun t : State => t.mau.stale) (fun id t => judge_stale r id t) _ s
@[simp] theorem evaluate_lastGranted (r : EvalRequest) (s : State) : (evaluate r s).mau.lastGranted = s.mau.lastGranted := by
  unfold evaluate; exact foldl_keeps (fun t : State => t.mau.lastGranted) (fun id t => judge_lastGranted r id t) _ s
/-- The accesses that this leaves in flight as they were. -/
theorem evaluate_access (r : EvalRequest) (s : State) (q : Requester) (h : ∀ n, q ≠ eventRequester n) :
    (evaluate r s).access q = s.access q := by
  unfold evaluate; exact foldl_keeps (fun t : State => t.access q) (fun id t => judge_access r id t q h) _ s

/-! ## breakWatch -/

@[simp] theorem breakWatch_control (id : Fin 128) (s : State) : (breakWatch id s).control = s.control := by
  unfold breakWatch; split <;> rfl
@[simp] theorem breakWatch_rings (id : Fin 128) (s : State) : (breakWatch id s).rings = s.rings := by unfold breakWatch; split <;> rfl
@[simp] theorem breakWatch_cmd (id : Fin 128) (s : State) : (breakWatch id s).cmd = s.cmd := by unfold breakWatch; split <;> rfl
@[simp] theorem breakWatch_streams (id : Fin 128) (s : State) : (breakWatch id s).streams = s.streams := by
  unfold breakWatch; split <;> rfl
@[simp] theorem breakWatch_pool (id : Fin 128) (s : State) : (breakWatch id s).pool = s.pool := by unfold breakWatch; split <;> rfl
@[simp] theorem breakWatch_delivery (id : Fin 128) (s : State) : (breakWatch id s).delivery = s.delivery := by
  unfold breakWatch; split <;> rfl
@[simp] theorem breakWatch_alarms (id : Fin 128) (s : State) : (breakWatch id s).alarms = s.alarms := by unfold breakWatch; split <;> rfl
@[simp] theorem breakWatch_pinChanges (id : Fin 128) (s : State) : (breakWatch id s).pinChanges = s.pinChanges := by
  unfold breakWatch; split <;> rfl
@[simp] theorem breakWatch_readData (id : Fin 128) (s : State) : (breakWatch id s).readData = s.readData := by
  unfold breakWatch; split <;> rfl
@[simp] theorem breakWatch_pending (id : Fin 128) (s : State) : (breakWatch id s).pending = s.pending := by
  unfold breakWatch; split <;> rfl
@[simp] theorem breakWatch_epoch (id : Fin 128) (s : State) : (breakWatch id s).mau.epoch = s.mau.epoch := by
  unfold breakWatch; split <;> rfl
@[simp] theorem breakWatch_stale (id : Fin 128) (s : State) : (breakWatch id s).mau.stale = s.mau.stale := by
  unfold breakWatch; split <;> rfl
@[simp] theorem breakWatch_lastGranted (id : Fin 128) (s : State) : (breakWatch id s).mau.lastGranted = s.mau.lastGranted := by
  unfold breakWatch; split <;> rfl
/-- The accesses that this leaves in flight as they were. -/
theorem breakWatch_access (id : Fin 128) (s : State) (q : Requester)  : (breakWatch id s).access q = s.access q := by
  unfold breakWatch; split <;> rfl

/-! ## breakStream -/

@[simp] theorem breakStream_control (i : Fin 64) (s : State) : (breakStream i s).control = s.control := by
  unfold breakStream; exact foldl_keeps (fun t : State => t.control) (fun id t => breakWatch_control id t) _ s
@[simp] theorem breakStream_rings (i : Fin 64) (s : State) : (breakStream i s).rings = s.rings := by
  unfold breakStream; exact foldl_keeps (fun t : State => t.rings) (fun id t => breakWatch_rings id t) _ s
@[simp] theorem breakStream_cmd (i : Fin 64) (s : State) : (breakStream i s).cmd = s.cmd := by
  unfold breakStream; exact foldl_keeps (fun t : State => t.cmd) (fun id t => breakWatch_cmd id t) _ s
@[simp] theorem breakStream_streams (i : Fin 64) (s : State) : (breakStream i s).streams = s.streams := by
  unfold breakStream; exact foldl_keeps (fun t : State => t.streams) (fun id t => breakWatch_streams id t) _ s
@[simp] theorem breakStream_pool (i : Fin 64) (s : State) : (breakStream i s).pool = s.pool := by
  unfold breakStream; exact foldl_keeps (fun t : State => t.pool) (fun id t => breakWatch_pool id t) _ s
@[simp] theorem breakStream_delivery (i : Fin 64) (s : State) : (breakStream i s).delivery = s.delivery := by
  unfold breakStream; exact foldl_keeps (fun t : State => t.delivery) (fun id t => breakWatch_delivery id t) _ s
@[simp] theorem breakStream_alarms (i : Fin 64) (s : State) : (breakStream i s).alarms = s.alarms := by
  unfold breakStream; exact foldl_keeps (fun t : State => t.alarms) (fun id t => breakWatch_alarms id t) _ s
@[simp] theorem breakStream_pinChanges (i : Fin 64) (s : State) : (breakStream i s).pinChanges = s.pinChanges := by
  unfold breakStream; exact foldl_keeps (fun t : State => t.pinChanges) (fun id t => breakWatch_pinChanges id t) _ s
@[simp] theorem breakStream_readData (i : Fin 64) (s : State) : (breakStream i s).readData = s.readData := by
  unfold breakStream; exact foldl_keeps (fun t : State => t.readData) (fun id t => breakWatch_readData id t) _ s
@[simp] theorem breakStream_pending (i : Fin 64) (s : State) : (breakStream i s).pending = s.pending := by
  unfold breakStream; exact foldl_keeps (fun t : State => t.pending) (fun id t => breakWatch_pending id t) _ s
@[simp] theorem breakStream_epoch (i : Fin 64) (s : State) : (breakStream i s).mau.epoch = s.mau.epoch := by
  unfold breakStream; exact foldl_keeps (fun t : State => t.mau.epoch) (fun id t => breakWatch_epoch id t) _ s
@[simp] theorem breakStream_stale (i : Fin 64) (s : State) : (breakStream i s).mau.stale = s.mau.stale := by
  unfold breakStream; exact foldl_keeps (fun t : State => t.mau.stale) (fun id t => breakWatch_stale id t) _ s
@[simp] theorem breakStream_lastGranted (i : Fin 64) (s : State) : (breakStream i s).mau.lastGranted = s.mau.lastGranted := by
  unfold breakStream; exact foldl_keeps (fun t : State => t.mau.lastGranted) (fun id t => breakWatch_lastGranted id t) _ s
/-- The accesses that this leaves in flight as they were. -/
theorem breakStream_access (i : Fin 64) (s : State) (q : Requester)  : (breakStream i s).access q = s.access q := by
  unfold breakStream; exact foldl_keeps (fun t : State => t.access q) (fun id t => breakWatch_access id t q) _ s

/-! ## rebaseDeadlines -/

@[simp] theorem rebaseDeadlines_control (s : State) : (rebaseDeadlines s).control = s.control := by simp only [rebaseDeadlines]
@[simp] theorem rebaseDeadlines_rings (s : State) : (rebaseDeadlines s).rings = s.rings := by simp only [rebaseDeadlines]
@[simp] theorem rebaseDeadlines_cmd (s : State) : (rebaseDeadlines s).cmd = s.cmd := by simp only [rebaseDeadlines]
@[simp] theorem rebaseDeadlines_watches (s : State) : (rebaseDeadlines s).watches = s.watches := by simp only [rebaseDeadlines]
@[simp] theorem rebaseDeadlines_pool (s : State) : (rebaseDeadlines s).pool = s.pool := by simp only [rebaseDeadlines]
@[simp] theorem rebaseDeadlines_delivery (s : State) : (rebaseDeadlines s).delivery = s.delivery := by simp only [rebaseDeadlines]
@[simp] theorem rebaseDeadlines_alarms (s : State) : (rebaseDeadlines s).alarms = s.alarms := by simp only [rebaseDeadlines]
@[simp] theorem rebaseDeadlines_pinChanges (s : State) : (rebaseDeadlines s).pinChanges = s.pinChanges := by simp only [rebaseDeadlines]
@[simp] theorem rebaseDeadlines_readData (s : State) : (rebaseDeadlines s).readData = s.readData := by simp only [rebaseDeadlines]
@[simp] theorem rebaseDeadlines_pending (s : State) : (rebaseDeadlines s).pending = s.pending := by simp only [rebaseDeadlines]
@[simp] theorem rebaseDeadlines_epoch (s : State) : (rebaseDeadlines s).mau.epoch = s.mau.epoch := by simp only [rebaseDeadlines]
@[simp] theorem rebaseDeadlines_stale (s : State) : (rebaseDeadlines s).mau.stale = s.mau.stale := by simp only [rebaseDeadlines]
@[simp] theorem rebaseDeadlines_lastGranted (s : State) : (rebaseDeadlines s).mau.lastGranted = s.mau.lastGranted := by
  simp only [rebaseDeadlines]
/-- The accesses that this leaves in flight as they were. -/
theorem rebaseDeadlines_access (s : State) (q : Requester)  : (rebaseDeadlines s).access q = s.access q := by
  simp only [rebaseDeadlines, State.access]

/-! ## goodSample -/

@[simp] theorem goodSample_control (i : Fin 64) (r : SampleRecord) (s : State) : (goodSample i r s).control = s.control := by
  simp [goodSample]
@[simp] theorem goodSample_rings (i : Fin 64) (r : SampleRecord) (s : State) : (goodSample i r s).rings = s.rings := by simp [goodSample]
@[simp] theorem goodSample_cmd (i : Fin 64) (r : SampleRecord) (s : State) : (goodSample i r s).cmd = s.cmd := by simp [goodSample]
@[simp] theorem goodSample_readData (i : Fin 64) (r : SampleRecord) (s : State) : (goodSample i r s).readData = s.readData := by
  simp [goodSample]
@[simp] theorem goodSample_pending (i : Fin 64) (r : SampleRecord) (s : State) : (goodSample i r s).pending = s.pending := by
  simp [goodSample]
@[simp] theorem goodSample_epoch (i : Fin 64) (r : SampleRecord) (s : State) : (goodSample i r s).mau.epoch = s.mau.epoch := by
  simp [goodSample]
@[simp] theorem goodSample_stale (i : Fin 64) (r : SampleRecord) (s : State) : (goodSample i r s).mau.stale = s.mau.stale := by
  simp [goodSample]
@[simp] theorem goodSample_lastGranted (i : Fin 64) (r : SampleRecord) (s : State) :
    (goodSample i r s).mau.lastGranted = s.mau.lastGranted := by
  simp [goodSample]
/-- The accesses that this leaves in flight as they were. -/
theorem goodSample_access (i : Fin 64) (r : SampleRecord) (s : State) (q : Requester) (h : ∀ n, q ≠ eventRequester n) :
    (goodSample i r s).access q = s.access q := by
  simp [goodSample, evaluate_access _ _ q h]

/-! ## badSample -/

@[simp] theorem badSample_control (i : Fin 64) (s : State) : (badSample i s).control = s.control := by simp [badSample]
@[simp] theorem badSample_rings (i : Fin 64) (s : State) : (badSample i s).rings = s.rings := by simp [badSample]
@[simp] theorem badSample_cmd (i : Fin 64) (s : State) : (badSample i s).cmd = s.cmd := by simp [badSample]
@[simp] theorem badSample_readData (i : Fin 64) (s : State) : (badSample i s).readData = s.readData := by simp [badSample]
@[simp] theorem badSample_pending (i : Fin 64) (s : State) : (badSample i s).pending = s.pending := by simp [badSample]
@[simp] theorem badSample_pool (i : Fin 64) (s : State) : (badSample i s).pool = s.pool := by simp [badSample]
@[simp] theorem badSample_delivery (i : Fin 64) (s : State) : (badSample i s).delivery = s.delivery := by simp [badSample]
@[simp] theorem badSample_alarms (i : Fin 64) (s : State) : (badSample i s).alarms = s.alarms := by simp [badSample]
@[simp] theorem badSample_epoch (i : Fin 64) (s : State) : (badSample i s).mau.epoch = s.mau.epoch := by simp [badSample]
@[simp] theorem badSample_stale (i : Fin 64) (s : State) : (badSample i s).mau.stale = s.mau.stale := by simp [badSample]
@[simp] theorem badSample_lastGranted (i : Fin 64) (s : State) : (badSample i s).mau.lastGranted = s.mau.lastGranted := by
  simp [badSample]
/-- The accesses that this leaves in flight as they were. -/
theorem badSample_access (i : Fin 64) (s : State) (q : Requester)  : (badSample i s).access q = s.access q := by
  simp [badSample, breakStream_access]

/-! ## silentSample -/

@[simp] theorem silentSample_control (i : Fin 64) (r : SampleRecord) (s : State) : (silentSample i r s).control = s.control := by
  unfold silentSample; split <;> rfl
@[simp] theorem silentSample_rings (i : Fin 64) (r : SampleRecord) (s : State) : (silentSample i r s).rings = s.rings := by
  unfold silentSample; split <;> rfl
@[simp] theorem silentSample_cmd (i : Fin 64) (r : SampleRecord) (s : State) : (silentSample i r s).cmd = s.cmd := by
  unfold silentSample; split <;> rfl
@[simp] theorem silentSample_readData (i : Fin 64) (r : SampleRecord) (s : State) : (silentSample i r s).readData = s.readData := by
  unfold silentSample; split <;> rfl
@[simp] theorem silentSample_pending (i : Fin 64) (r : SampleRecord) (s : State) : (silentSample i r s).pending = s.pending := by
  unfold silentSample; split <;> rfl
@[simp] theorem silentSample_watches (i : Fin 64) (r : SampleRecord) (s : State) : (silentSample i r s).watches = s.watches := by
  unfold silentSample; split <;> rfl
@[simp] theorem silentSample_pool (i : Fin 64) (r : SampleRecord) (s : State) : (silentSample i r s).pool = s.pool := by
  unfold silentSample; split <;> rfl
@[simp] theorem silentSample_delivery (i : Fin 64) (r : SampleRecord) (s : State) : (silentSample i r s).delivery = s.delivery := by
  unfold silentSample; split <;> rfl
@[simp] theorem silentSample_alarms (i : Fin 64) (r : SampleRecord) (s : State) : (silentSample i r s).alarms = s.alarms := by
  unfold silentSample; split <;> rfl
@[simp] theorem silentSample_epoch (i : Fin 64) (r : SampleRecord) (s : State) : (silentSample i r s).mau.epoch = s.mau.epoch := by
  unfold silentSample; split <;> rfl
@[simp] theorem silentSample_stale (i : Fin 64) (r : SampleRecord) (s : State) : (silentSample i r s).mau.stale = s.mau.stale := by
  unfold silentSample; split <;> rfl
@[simp] theorem silentSample_lastGranted (i : Fin 64) (r : SampleRecord) (s : State) :
    (silentSample i r s).mau.lastGranted = s.mau.lastGranted := by
  unfold silentSample; split <;> rfl
/-- The accesses that this leaves in flight as they were. -/
theorem silentSample_access (i : Fin 64) (r : SampleRecord) (s : State) (q : Requester)  :
    (silentSample i r s).access q = s.access q := by
  unfold silentSample; split <;> rfl

/-! ## acceptSample -/

@[simp] theorem acceptSample_control (i : Fin 64) (gap : Bool) (r : SampleRecord) (s : State) :
    (acceptSample i gap r s).control = s.control := by
  unfold acceptSample; (repeat' split) <;> simp
@[simp] theorem acceptSample_rings (i : Fin 64) (gap : Bool) (r : SampleRecord) (s : State) :
    (acceptSample i gap r s).rings = s.rings := by
  unfold acceptSample; (repeat' split) <;> simp
@[simp] theorem acceptSample_cmd (i : Fin 64) (gap : Bool) (r : SampleRecord) (s : State) : (acceptSample i gap r s).cmd = s.cmd := by
  unfold acceptSample; (repeat' split) <;> simp
@[simp] theorem acceptSample_readData (i : Fin 64) (gap : Bool) (r : SampleRecord) (s : State) :
    (acceptSample i gap r s).readData = s.readData := by
  unfold acceptSample; (repeat' split) <;> simp
@[simp] theorem acceptSample_pending (i : Fin 64) (gap : Bool) (r : SampleRecord) (s : State) :
    (acceptSample i gap r s).pending = s.pending := by
  unfold acceptSample; (repeat' split) <;> simp
@[simp] theorem acceptSample_epoch (i : Fin 64) (gap : Bool) (r : SampleRecord) (s : State) :
    (acceptSample i gap r s).mau.epoch = s.mau.epoch := by
  unfold acceptSample; (repeat' split) <;> simp
@[simp] theorem acceptSample_stale (i : Fin 64) (gap : Bool) (r : SampleRecord) (s : State) :
    (acceptSample i gap r s).mau.stale = s.mau.stale := by
  unfold acceptSample; (repeat' split) <;> simp
@[simp] theorem acceptSample_lastGranted (i : Fin 64) (gap : Bool) (r : SampleRecord) (s : State) :
    (acceptSample i gap r s).mau.lastGranted = s.mau.lastGranted := by
  unfold acceptSample; (repeat' split) <;> simp
/-- The accesses that this leaves in flight as they were. -/
theorem acceptSample_access (i : Fin 64) (gap : Bool) (r : SampleRecord) (s : State) (q : Requester) (h : ∀ n, q ≠ eventRequester n) :
    (acceptSample i gap r s).access q = s.access q := by
  unfold acceptSample; (repeat' split) <;> simp [badSample_access, silentSample_access, goodSample_access _ _ _ q h, breakStream_access]

/-! ## routedSample -/

@[simp] theorem routedSample_control (i : Fin 64) (r : SampleRecord) (s : State) : (routedSample i r s).control = s.control := by
  unfold routedSample; dsimp only; split <;> simp
@[simp] theorem routedSample_rings (i : Fin 64) (r : SampleRecord) (s : State) : (routedSample i r s).rings = s.rings := by
  unfold routedSample; dsimp only; split <;> simp
@[simp] theorem routedSample_cmd (i : Fin 64) (r : SampleRecord) (s : State) : (routedSample i r s).cmd = s.cmd := by
  unfold routedSample; dsimp only; split <;> simp
@[simp] theorem routedSample_readData (i : Fin 64) (r : SampleRecord) (s : State) : (routedSample i r s).readData = s.readData := by
  unfold routedSample; dsimp only; split <;> simp
@[simp] theorem routedSample_pending (i : Fin 64) (r : SampleRecord) (s : State) : (routedSample i r s).pending = s.pending := by
  unfold routedSample; dsimp only; split <;> simp
@[simp] theorem routedSample_epoch (i : Fin 64) (r : SampleRecord) (s : State) : (routedSample i r s).mau.epoch = s.mau.epoch := by
  unfold routedSample; dsimp only; split <;> simp
@[simp] theorem routedSample_stale (i : Fin 64) (r : SampleRecord) (s : State) : (routedSample i r s).mau.stale = s.mau.stale := by
  unfold routedSample; dsimp only; split <;> simp
@[simp] theorem routedSample_lastGranted (i : Fin 64) (r : SampleRecord) (s : State) :
    (routedSample i r s).mau.lastGranted = s.mau.lastGranted := by
  unfold routedSample; dsimp only; split <;> simp
/-- The accesses that this leaves in flight as they were. -/
theorem routedSample_access (i : Fin 64) (r : SampleRecord) (s : State) (q : Requester) (h : ∀ n, q ≠ eventRequester n) :
    (routedSample i r s).access q = s.access q := by
  unfold routedSample; dsimp only; split <;> simp [acceptSample_access _ _ _ _ q h]

/-! ## processRecord -/

@[simp] theorem processRecord_control (n : Fin 8) (r : SampleRecord) (s : State) : (processRecord n r s).control = s.control := by
  unfold processRecord; split <;> simp [countUnrouted]
@[simp] theorem processRecord_cmd (n : Fin 8) (r : SampleRecord) (s : State) : (processRecord n r s).cmd = s.cmd := by
  unfold processRecord; split <;> simp [countUnrouted]
@[simp] theorem processRecord_readData (n : Fin 8) (r : SampleRecord) (s : State) : (processRecord n r s).readData = s.readData := by
  unfold processRecord; split <;> simp [countUnrouted]
@[simp] theorem processRecord_pending (n : Fin 8) (r : SampleRecord) (s : State) : (processRecord n r s).pending = s.pending := by
  unfold processRecord; split <;> simp [countUnrouted]
@[simp] theorem processRecord_epoch (n : Fin 8) (r : SampleRecord) (s : State) : (processRecord n r s).mau.epoch = s.mau.epoch := by
  unfold processRecord; split <;> simp [countUnrouted]
@[simp] theorem processRecord_stale (n : Fin 8) (r : SampleRecord) (s : State) : (processRecord n r s).mau.stale = s.mau.stale := by
  unfold processRecord; split <;> simp [countUnrouted]
@[simp] theorem processRecord_lastGranted (n : Fin 8) (r : SampleRecord) (s : State) :
    (processRecord n r s).mau.lastGranted = s.mau.lastGranted := by
  unfold processRecord; split <;> simp [countUnrouted]
/-- The accesses that this leaves in flight as they were. -/
theorem processRecord_access (n : Fin 8) (r : SampleRecord) (s : State) (q : Requester) (h : ∀ n, q ≠ eventRequester n) :
    (processRecord n r s).access q = s.access q := by
  unfold processRecord; split <;> simp [countUnrouted, routedSample_access _ _ _ q h]
@[simp] theorem processRecord_command (n : Fin 8) (r : SampleRecord) (s : State) :
    (processRecord n r s).rings.command = s.rings.command := by
  unfold processRecord; split <;> simp [countUnrouted]
@[simp] theorem processRecord_reply (n : Fin 8) (r : SampleRecord) (s : State) : (processRecord n r s).rings.reply = s.rings.reply := by
  unfold processRecord; split <;> simp [countUnrouted]
@[simp] theorem processRecord_event (n : Fin 8) (r : SampleRecord) (s : State) : (processRecord n r s).rings.event = s.rings.event := by
  unfold processRecord; split <;> simp [countUnrouted]
@[simp] theorem processRecord_shadowAddr (n : Fin 8) (r : SampleRecord) (s : State) :
    (processRecord n r s).rings.shadowAddr = s.rings.shadowAddr := by
  unfold processRecord; split <;> simp [countUnrouted]
@[simp] theorem processRecord_shadowOwed (n : Fin 8) (r : SampleRecord) (s : State) :
    (processRecord n r s).rings.shadowOwed = s.rings.shadowOwed := by
  unfold processRecord; split <;> simp [countUnrouted]

/-! ## processRecords -/

@[simp] theorem processRecords_control (n : Fin 8) (l : List SampleRecord) (s : State) : (processRecords n l s).control = s.control := by
  unfold processRecords; exact foldl_keeps (fun t : State => t.control) (fun r t => processRecord_control n r t) _ s
@[simp] theorem processRecords_cmd (n : Fin 8) (l : List SampleRecord) (s : State) : (processRecords n l s).cmd = s.cmd := by
  unfold processRecords; exact foldl_keeps (fun t : State => t.cmd) (fun r t => processRecord_cmd n r t) _ s
@[simp] theorem processRecords_readData (n : Fin 8) (l : List SampleRecord) (s : State) :
    (processRecords n l s).readData = s.readData := by
  unfold processRecords; exact foldl_keeps (fun t : State => t.readData) (fun r t => processRecord_readData n r t) _ s
@[simp] theorem processRecords_pending (n : Fin 8) (l : List SampleRecord) (s : State) : (processRecords n l s).pending = s.pending := by
  unfold processRecords; exact foldl_keeps (fun t : State => t.pending) (fun r t => processRecord_pending n r t) _ s
@[simp] theorem processRecords_epoch (n : Fin 8) (l : List SampleRecord) (s : State) :
    (processRecords n l s).mau.epoch = s.mau.epoch := by
  unfold processRecords; exact foldl_keeps (fun t : State => t.mau.epoch) (fun r t => processRecord_epoch n r t) _ s
@[simp] theorem processRecords_stale (n : Fin 8) (l : List SampleRecord) (s : State) :
    (processRecords n l s).mau.stale = s.mau.stale := by
  unfold processRecords; exact foldl_keeps (fun t : State => t.mau.stale) (fun r t => processRecord_stale n r t) _ s
@[simp] theorem processRecords_lastGranted (n : Fin 8) (l : List SampleRecord) (s : State) :
    (processRecords n l s).mau.lastGranted = s.mau.lastGranted := by
  unfold processRecords; exact foldl_keeps (fun t : State => t.mau.lastGranted) (fun r t => processRecord_lastGranted n r t) _ s
/-- The accesses that this leaves in flight as they were. -/
theorem processRecords_access (n : Fin 8) (l : List SampleRecord) (s : State) (q : Requester) (h : ∀ n, q ≠ eventRequester n) :
    (processRecords n l s).access q = s.access q := by
  unfold processRecords; exact foldl_keeps (fun t : State => t.access q) (fun r t => processRecord_access n r t q h) _ s
@[simp] theorem processRecords_command (n : Fin 8) (l : List SampleRecord) (s : State) :
    (processRecords n l s).rings.command = s.rings.command := by
  unfold processRecords; exact foldl_keeps (fun t : State => t.rings.command) (fun r t => processRecord_command n r t) _ s
@[simp] theorem processRecords_reply (n : Fin 8) (l : List SampleRecord) (s : State) :
    (processRecords n l s).rings.reply = s.rings.reply := by
  unfold processRecords; exact foldl_keeps (fun t : State => t.rings.reply) (fun r t => processRecord_reply n r t) _ s
@[simp] theorem processRecords_event (n : Fin 8) (l : List SampleRecord) (s : State) :
    (processRecords n l s).rings.event = s.rings.event := by
  unfold processRecords; exact foldl_keeps (fun t : State => t.rings.event) (fun r t => processRecord_event n r t) _ s
@[simp] theorem processRecords_shadowAddr (n : Fin 8) (l : List SampleRecord) (s : State) :
    (processRecords n l s).rings.shadowAddr = s.rings.shadowAddr := by
  unfold processRecords; exact foldl_keeps (fun t : State => t.rings.shadowAddr) (fun r t => processRecord_shadowAddr n r t) _ s
@[simp] theorem processRecords_shadowOwed (n : Fin 8) (l : List SampleRecord) (s : State) :
    (processRecords n l s).rings.shadowOwed = s.rings.shadowOwed := by
  unfold processRecords; exact foldl_keeps (fun t : State => t.rings.shadowOwed) (fun r t => processRecord_shadowOwed n r t) _ s

/-! ## substituteHandOff -/

@[simp] theorem substituteHandOff_control (i : Fin 64) (s : State) : (substituteHandOff i s).control = s.control := by
  unfold substituteHandOff; split <;> simp
@[simp] theorem substituteHandOff_rings (i : Fin 64) (s : State) : (substituteHandOff i s).rings = s.rings := by
  unfold substituteHandOff; split <;> simp
@[simp] theorem substituteHandOff_cmd (i : Fin 64) (s : State) : (substituteHandOff i s).cmd = s.cmd := by
  unfold substituteHandOff; split <;> simp
@[simp] theorem substituteHandOff_readData (i : Fin 64) (s : State) : (substituteHandOff i s).readData = s.readData := by
  unfold substituteHandOff; split <;> simp
@[simp] theorem substituteHandOff_pending (i : Fin 64) (s : State) : (substituteHandOff i s).pending = s.pending := by
  unfold substituteHandOff; split <;> simp
@[simp] theorem substituteHandOff_streams (i : Fin 64) (s : State) : (substituteHandOff i s).streams = s.streams := by
  unfold substituteHandOff; split <;> simp
@[simp] theorem substituteHandOff_epoch (i : Fin 64) (s : State) : (substituteHandOff i s).mau.epoch = s.mau.epoch := by
  unfold substituteHandOff; split <;> simp
@[simp] theorem substituteHandOff_stale (i : Fin 64) (s : State) : (substituteHandOff i s).mau.stale = s.mau.stale := by
  unfold substituteHandOff; split <;> simp
@[simp] theorem substituteHandOff_lastGranted (i : Fin 64) (s : State) : (substituteHandOff i s).mau.lastGranted = s.mau.lastGranted := by
  unfold substituteHandOff; split <;> simp
/-- The accesses that this leaves in flight as they were. -/
theorem substituteHandOff_access (i : Fin 64) (s : State) (q : Requester) (h : ∀ n, q ≠ eventRequester n) :
    (substituteHandOff i s).access q = s.access q := by
  unfold substituteHandOff; split <;> simp [evaluate_access _ _ q h]

/-! ## expire -/

@[simp] theorem expire_control (i : Fin 64) (s : State) : (expire i s).control = s.control := by unfold expire; dsimp only; split <;> simp
@[simp] theorem expire_rings (i : Fin 64) (s : State) : (expire i s).rings = s.rings := by unfold expire; dsimp only; split <;> simp
@[simp] theorem expire_cmd (i : Fin 64) (s : State) : (expire i s).cmd = s.cmd := by unfold expire; dsimp only; split <;> simp
@[simp] theorem expire_readData (i : Fin 64) (s : State) : (expire i s).readData = s.readData := by
  unfold expire; dsimp only; split <;> simp
@[simp] theorem expire_pending (i : Fin 64) (s : State) : (expire i s).pending = s.pending := by unfold expire; dsimp only; split <;> simp
@[simp] theorem expire_epoch (i : Fin 64) (s : State) : (expire i s).mau.epoch = s.mau.epoch := by
  unfold expire; dsimp only; split <;> simp
@[simp] theorem expire_stale (i : Fin 64) (s : State) : (expire i s).mau.stale = s.mau.stale := by
  unfold expire; dsimp only; split <;> simp
@[simp] theorem expire_lastGranted (i : Fin 64) (s : State) : (expire i s).mau.lastGranted = s.mau.lastGranted := by
  unfold expire; dsimp only; split <;> simp
/-- The accesses that this leaves in flight as they were. -/
theorem expire_access (i : Fin 64) (s : State) (q : Requester) (h : ∀ n, q ≠ eventRequester n) : (expire i s).access q = s.access q := by
  unfold expire; dsimp only; split <;> simp [substituteHandOff_access _ _ q h, handEvent_access _ _ q h]

/-! ## expireIfDue -/

@[simp] theorem expireIfDue_control (i : Fin 64) (s : State) : (expireIfDue i s).control = s.control := by
  unfold expireIfDue; split <;> simp
@[simp] theorem expireIfDue_rings (i : Fin 64) (s : State) : (expireIfDue i s).rings = s.rings := by unfold expireIfDue; split <;> simp
@[simp] theorem expireIfDue_cmd (i : Fin 64) (s : State) : (expireIfDue i s).cmd = s.cmd := by unfold expireIfDue; split <;> simp
@[simp] theorem expireIfDue_readData (i : Fin 64) (s : State) : (expireIfDue i s).readData = s.readData := by
  unfold expireIfDue; split <;> simp
@[simp] theorem expireIfDue_pending (i : Fin 64) (s : State) : (expireIfDue i s).pending = s.pending := by
  unfold expireIfDue; split <;> simp
@[simp] theorem expireIfDue_epoch (i : Fin 64) (s : State) : (expireIfDue i s).mau.epoch = s.mau.epoch := by
  unfold expireIfDue; split <;> simp
@[simp] theorem expireIfDue_stale (i : Fin 64) (s : State) : (expireIfDue i s).mau.stale = s.mau.stale := by
  unfold expireIfDue; split <;> simp
@[simp] theorem expireIfDue_lastGranted (i : Fin 64) (s : State) : (expireIfDue i s).mau.lastGranted = s.mau.lastGranted := by
  unfold expireIfDue; split <;> simp
/-- The accesses that this leaves in flight as they were. -/
theorem expireIfDue_access (i : Fin 64) (s : State) (q : Requester) (h : ∀ n, q ≠ eventRequester n) :
    (expireIfDue i s).access q = s.access q := by
  unfold expireIfDue; split <;> simp [expire_access _ _ q h]

/-! ## takeDueExpiries -/

@[simp] theorem takeDueExpiries_control (s : State) : (takeDueExpiries s).control = s.control := by
  unfold takeDueExpiries; exact foldl_keeps (fun t : State => t.control) (fun i t => expireIfDue_control i t) _ s
@[simp] theorem takeDueExpiries_rings (s : State) : (takeDueExpiries s).rings = s.rings := by
  unfold takeDueExpiries; exact foldl_keeps (fun t : State => t.rings) (fun i t => expireIfDue_rings i t) _ s
@[simp] theorem takeDueExpiries_cmd (s : State) : (takeDueExpiries s).cmd = s.cmd := by
  unfold takeDueExpiries; exact foldl_keeps (fun t : State => t.cmd) (fun i t => expireIfDue_cmd i t) _ s
@[simp] theorem takeDueExpiries_readData (s : State) : (takeDueExpiries s).readData = s.readData := by
  unfold takeDueExpiries; exact foldl_keeps (fun t : State => t.readData) (fun i t => expireIfDue_readData i t) _ s
@[simp] theorem takeDueExpiries_pending (s : State) : (takeDueExpiries s).pending = s.pending := by
  unfold takeDueExpiries; exact foldl_keeps (fun t : State => t.pending) (fun i t => expireIfDue_pending i t) _ s
@[simp] theorem takeDueExpiries_epoch (s : State) : (takeDueExpiries s).mau.epoch = s.mau.epoch := by
  unfold takeDueExpiries; exact foldl_keeps (fun t : State => t.mau.epoch) (fun i t => expireIfDue_epoch i t) _ s
@[simp] theorem takeDueExpiries_stale (s : State) : (takeDueExpiries s).mau.stale = s.mau.stale := by
  unfold takeDueExpiries; exact foldl_keeps (fun t : State => t.mau.stale) (fun i t => expireIfDue_stale i t) _ s
@[simp] theorem takeDueExpiries_lastGranted (s : State) : (takeDueExpiries s).mau.lastGranted = s.mau.lastGranted := by
  unfold takeDueExpiries; exact foldl_keeps (fun t : State => t.mau.lastGranted) (fun i t => expireIfDue_lastGranted i t) _ s
/-- The accesses that this leaves in flight as they were. -/
theorem takeDueExpiries_access (s : State) (q : Requester) (h : ∀ n, q ≠ eventRequester n) :
    (takeDueExpiries s).access q = s.access q := by
  unfold takeDueExpiries; exact foldl_keeps (fun t : State => t.access q) (fun i t => expireIfDue_access i t q h) _ s

/-! ## enterRun -/

@[simp] theorem enterRun_rings (s : State) : (enterRun s).rings = s.rings := by simp [enterRun]
@[simp] theorem enterRun_watches (s : State) : (enterRun s).watches = s.watches := by simp [enterRun]
@[simp] theorem enterRun_delivery (s : State) : (enterRun s).delivery = s.delivery := by simp [enterRun]
@[simp] theorem enterRun_alarms (s : State) : (enterRun s).alarms = s.alarms := by simp [enterRun]
@[simp] theorem enterRun_pinChanges (s : State) : (enterRun s).pinChanges = s.pinChanges := by simp [enterRun]
@[simp] theorem enterRun_readData (s : State) : (enterRun s).readData = s.readData := by simp [enterRun]
@[simp] theorem enterRun_pending (s : State) : (enterRun s).pending = s.pending := by simp [enterRun]
@[simp] theorem enterRun_epoch (s : State) : (enterRun s).mau.epoch = s.mau.epoch := by simp [enterRun]
@[simp] theorem enterRun_stale (s : State) : (enterRun s).mau.stale = s.mau.stale := by simp [enterRun]
@[simp] theorem enterRun_lastGranted (s : State) : (enterRun s).mau.lastGranted = s.mau.lastGranted := by simp [enterRun]
/-- The accesses that this leaves in flight as they were. -/
theorem enterRun_access (s : State) (q : Requester) (hc : q ≠ commandRequester) (hs : ∀ n, q ≠ sampleRequester n) (he : ∀ n, q ≠ eventRequester n) :
    (enterRun s).access q = s.access q := by
  simp [enterRun, checkWriters_access _ q he, startSampleFetches_access _ q hs, startCommandFetch_access _ q hc, rebaseDeadlines_access]

/-! ## checkStoppingEnd -/

@[simp] theorem checkStoppingEnd_rings (s : State) : (checkStoppingEnd s).rings = s.rings := by
  unfold checkStoppingEnd; (repeat' split) <;> simp
@[simp] theorem checkStoppingEnd_watches (s : State) : (checkStoppingEnd s).watches = s.watches := by
  unfold checkStoppingEnd; (repeat' split) <;> simp
@[simp] theorem checkStoppingEnd_delivery (s : State) : (checkStoppingEnd s).delivery = s.delivery := by
  unfold checkStoppingEnd; (repeat' split) <;> simp
@[simp] theorem checkStoppingEnd_alarms (s : State) : (checkStoppingEnd s).alarms = s.alarms := by
  unfold checkStoppingEnd; (repeat' split) <;> simp
@[simp] theorem checkStoppingEnd_pinChanges (s : State) : (checkStoppingEnd s).pinChanges = s.pinChanges := by
  unfold checkStoppingEnd; (repeat' split) <;> simp
@[simp] theorem checkStoppingEnd_readData (s : State) : (checkStoppingEnd s).readData = s.readData := by
  unfold checkStoppingEnd; (repeat' split) <;> simp
@[simp] theorem checkStoppingEnd_pending (s : State) : (checkStoppingEnd s).pending = s.pending := by
  unfold checkStoppingEnd; (repeat' split) <;> simp
@[simp] theorem checkStoppingEnd_epoch (s : State) : (checkStoppingEnd s).mau.epoch = s.mau.epoch := by
  unfold checkStoppingEnd; (repeat' split) <;> simp
@[simp] theorem checkStoppingEnd_stale (s : State) : (checkStoppingEnd s).mau.stale = s.mau.stale := by
  unfold checkStoppingEnd; (repeat' split) <;> simp
@[simp] theorem checkStoppingEnd_lastGranted (s : State) : (checkStoppingEnd s).mau.lastGranted = s.mau.lastGranted := by
  unfold checkStoppingEnd; (repeat' split) <;> simp
/-- The accesses that this leaves in flight as they were. -/
theorem checkStoppingEnd_access (s : State) (q : Requester) (hc : q ≠ commandRequester) (hs : ∀ n, q ≠ sampleRequester n) (he : ∀ n, q ≠ eventRequester n) :
    (checkStoppingEnd s).access q = s.access q := by
  unfold checkStoppingEnd; (repeat' split) <;> simp [enterRun_access _ q hc hs he]

/-! ## sendReply -/

@[simp] theorem sendReply_control (c : CommandRecord) (x : Status) (w : Words) (s : State) : (sendReply c x w s).control = s.control := by
  rfl
@[simp] theorem sendReply_rings (c : CommandRecord) (x : Status) (w : Words) (s : State) : (sendReply c x w s).rings = s.rings := by rfl
@[simp] theorem sendReply_streams (c : CommandRecord) (x : Status) (w : Words) (s : State) : (sendReply c x w s).streams = s.streams := by
  rfl
@[simp] theorem sendReply_watches (c : CommandRecord) (x : Status) (w : Words) (s : State) : (sendReply c x w s).watches = s.watches := by
  rfl
@[simp] theorem sendReply_pool (c : CommandRecord) (x : Status) (w : Words) (s : State) : (sendReply c x w s).pool = s.pool := by rfl
@[simp] theorem sendReply_delivery (c : CommandRecord) (x : Status) (w : Words) (s : State) :
    (sendReply c x w s).delivery = s.delivery := by
  rfl
@[simp] theorem sendReply_alarms (c : CommandRecord) (x : Status) (w : Words) (s : State) : (sendReply c x w s).alarms = s.alarms := by
  rfl
@[simp] theorem sendReply_pinChanges (c : CommandRecord) (x : Status) (w : Words) (s : State) :
    (sendReply c x w s).pinChanges = s.pinChanges := by
  rfl
@[simp] theorem sendReply_readData (c : CommandRecord) (x : Status) (w : Words) (s : State) :
    (sendReply c x w s).readData = s.readData := by
  rfl
@[simp] theorem sendReply_pending (c : CommandRecord) (x : Status) (w : Words) (s : State) : (sendReply c x w s).pending = s.pending := by
  rfl
@[simp] theorem sendReply_epoch (c : CommandRecord) (x : Status) (w : Words) (s : State) :
    (sendReply c x w s).mau.epoch = s.mau.epoch := by
  rfl
@[simp] theorem sendReply_stale (c : CommandRecord) (x : Status) (w : Words) (s : State) :
    (sendReply c x w s).mau.stale = s.mau.stale := by
  rfl
@[simp] theorem sendReply_lastGranted (c : CommandRecord) (x : Status) (w : Words) (s : State) :
    (sendReply c x w s).mau.lastGranted = s.mau.lastGranted := by
  rfl
/-- The accesses that this leaves in flight as they were. -/
theorem sendReply_access (c : CommandRecord) (x : Status) (w : Words) (s : State) (q : Requester) (h : q ≠ replyRequester) :
    (sendReply c x w s).access q = s.access q := by
  exact handOver_access _ _ _ _ q h

/-! ## holdCommand -/

@[simp] theorem holdCommand_control (c : CommandRecord) (s : State) : (holdCommand c s).control = s.control := by rfl
@[simp] theorem holdCommand_streams (c : CommandRecord) (s : State) : (holdCommand c s).streams = s.streams := by rfl
@[simp] theorem holdCommand_watches (c : CommandRecord) (s : State) : (holdCommand c s).watches = s.watches := by rfl
@[simp] theorem holdCommand_pool (c : CommandRecord) (s : State) : (holdCommand c s).pool = s.pool := by rfl
@[simp] theorem holdCommand_delivery (c : CommandRecord) (s : State) : (holdCommand c s).delivery = s.delivery := by rfl
@[simp] theorem holdCommand_alarms (c : CommandRecord) (s : State) : (holdCommand c s).alarms = s.alarms := by rfl
@[simp] theorem holdCommand_pinChanges (c : CommandRecord) (s : State) : (holdCommand c s).pinChanges = s.pinChanges := by rfl
@[simp] theorem holdCommand_readData (c : CommandRecord) (s : State) : (holdCommand c s).readData = s.readData := by rfl
@[simp] theorem holdCommand_pending (c : CommandRecord) (s : State) : (holdCommand c s).pending = s.pending := by rfl
@[simp] theorem holdCommand_epoch (c : CommandRecord) (s : State) : (holdCommand c s).mau.epoch = s.mau.epoch := by rfl
@[simp] theorem holdCommand_stale (c : CommandRecord) (s : State) : (holdCommand c s).mau.stale = s.mau.stale := by rfl
@[simp] theorem holdCommand_lastGranted (c : CommandRecord) (s : State) : (holdCommand c s).mau.lastGranted = s.mau.lastGranted := by rfl
/-- The accesses that this leaves in flight as they were. -/
theorem holdCommand_access (c : CommandRecord) (s : State) (q : Requester)  : (holdCommand c s).access q = s.access q := by rfl

end Sys2Proof.Machine
end

