-- ==== Sys2Proof/Laws/Checks.lean ====
section
/-!
SUPPORT. What each shared operation can do, said once: fields and geometries, arrivals, faults, the checks that start accesses, run
breaks, contribution reports, and how a host command is taken and answered. What is an obligation of its own (the writer, the hand-over,
the judgement of a watch) is not stated here.
-/

namespace Sys2Proof.Machine

/-! ## Fields and geometries -/

/-- A field names `n` exactly where its number is `n`'s. -/
theorem fieldBelow_eq_some {k w : Nat} {x : BitVec w} {n : Fin k} : fieldBelow k x = some n ↔ x.toNat = n.val := by
  unfold fieldBelow
  split
  · rw [Option.some.injEq, Fin.ext_iff]
  · simp only [reduceCtorEq, false_iff]; have := n.isLt; omega

/-- A field names nothing exactly where its number is out of range. -/
theorem fieldBelow_eq_none {k w : Nat} {x : BitVec w} : fieldBelow k x = none ↔ k ≤ x.toNat := by
  unfold fieldBelow; split <;> simp <;> omega

/-- The geometry check is R2's, for a slot count that fits a 16-bit field. -/
theorem validGeometry_iff (lo hi : Nat) (base : Addr) {slots : Nat} (fits : slots < 65536) :
    validGeometry lo hi base slots = true ↔ GoodGeometry lo hi base slots := by
  have power : isPowerOfTwo slots = true ↔ ∃ k, slots = 2 ^ k := by
    simp only [isPowerOfTwo, List.any_eq_true, List.mem_range, beq_iff_eq]
    constructor
    · rintro ⟨k, _, h⟩; exact ⟨k, h⟩
    · rintro ⟨k, h⟩
      refine ⟨k, ?_, h⟩
      by_contra hk
      have := Nat.pow_le_pow_right (show 0 < 2 by omega) (show 16 ≤ k by omega)
      omega
  simp only [validGeometry, GoodGeometry, Bool.and_eq_true, power, decide_eq_true_eq, beq_iff_eq, Nat.dvd_iff_mod_eq_zero, and_assoc]

/-- A field of a packed word (R203). -/
theorem packed_cons (low width value : Nat) (rest : List (Nat × Nat × Nat)) :
    packed ((low, width, value) :: rest) =
      (BitVec.ofNat width value).setWidth 32 * BitVec.ofNat 32 (2 ^ low) + packed rest := by
  have field : BitVec.ofNat 32 (value % 2 ^ width * 2 ^ low) = (BitVec.ofNat width value).setWidth 32 * BitVec.ofNat 32 (2 ^ low) := by
    rw [BitVec.ofNat_mul, ← BitVec.toNat_ofNat, BitVec.ofNat_toNat]
  unfold packed
  rw [List.map_cons, List.sum_cons, BitVec.ofNat_add, field]

@[simp] theorem packed_nil : packed [] = 0 := rfl

/-- A word of one 32-bit number. -/
theorem packed_number (n : Nat) : packed [(0, 32, n)] = numWord n := by
  apply BitVec.eq_of_toNat_eq; simp [packed, numWord]

/-! ## Accesses -/

/-- Setting a requester's access to what it is changes nothing. -/
theorem State.setAccess_eta (s : State) (r : Requester) : s.setAccess r (s.access r) = s := by
  simp [State.setAccess, State.mapMau, State.access]

/-- No two sample rings share a requester (R17). -/
theorem sampleRequester_inj {n m : Fin 8} : sampleRequester n = sampleRequester m ↔ n = m := by
  simp [sampleRequester, Fin.ext_iff]

/-- No two event rings share a requester (R17). -/
theorem eventRequester_inj {n m : Fin 4} : eventRequester n = eventRequester m ↔ n = m := by
  simp [eventRequester, Fin.ext_iff]

/-- A completion that reaches its block (R19). -/
theorem onArrival_of_returns {r : Requester} {a : Access} {s : State} {kind : Payload → Bool} {deliver : Access → State → State}
    (h : Returns r a s) (hk : kind a.payload = true) : onArrival r kind s deliver = .next (deliver a (s.setAccess r none)) := by
  obtain ⟨h1, h2, h3⟩ := h
  simp [onArrival, arrive, h1, h2, h3, hk]

/-- A completion in FAULT, which is discarded (R21, R151). -/
theorem onArrival_of_fault {r : Requester} {a : Access} {s : State} {kind : Payload → Bool} {deliver : Access → State → State}
    (h1 : s.access r = some a) (h2 : a.phase = .onLink) (h3 : s.control.engine = .fault) (hk : kind a.payload = true) :
    onArrival r kind s deliver = .next (s.setAccess r (some { a with phase := .returned })) := by
  simp [onArrival, arrive, h1, h2, h3, hk]

/-- All that a completion row can do when it answers a next state. -/
theorem onArrival_next {r : Requester} {s t : State} {kind : Payload → Bool} {deliver : Access → State → State}
    (h : onArrival r kind s deliver = .next t) :
    ∃ a, s.access r = some a ∧ a.phase = .onLink ∧ kind a.payload = true ∧
      ((s.control.engine = .fault ∧ t = s.setAccess r (some { a with phase := .returned })) ∨
        (s.control.engine ≠ .fault ∧ t = deliver a (s.setAccess r none))) := by
  unfold onArrival arrive at h
  cases ha : s.access r with
  | none => simp [ha] at h
  | some a =>
    simp only [ha] at h
    by_cases h1 : a.phase = .onLink ∧ kind a.payload = true
    · rw [if_pos h1] at h
      refine ⟨a, rfl, h1.1, h1.2, ?_⟩
      by_cases h2 : s.control.engine = .fault
      · rw [if_pos h2] at h; simp at h; exact .inl ⟨h2, h.symm⟩
      · rw [if_neg h2] at h; simp at h; exact .inr ⟨h2, h.symm⟩
    · rw [if_neg h1] at h; simp at h

/-- A completion row answers a next state exactly where its access is on the link. -/
theorem onArrival_isNext {r : Requester} {s : State} {kind : Payload → Bool} {deliver : Access → State → State} :
    (∃ t, onArrival r kind s deliver = .next t) ↔ ∃ a, s.access r = some a ∧ a.phase = .onLink ∧ kind a.payload = true := by
  constructor
  · rintro ⟨t, h⟩
    obtain ⟨a, h1, h2, h3, -⟩ := onArrival_next h
    exact ⟨a, h1, h2, h3⟩
  · rintro ⟨a, h1, h2, h3⟩
    by_cases h4 : s.control.engine = .fault
    · exact ⟨_, onArrival_of_fault h1 h2 h4 h3⟩
    · exact ⟨_, onArrival_of_returns ⟨h1, h2, h4⟩ h3⟩

/-- Where its access is not on the link, a completion row is refused. -/
theorem onArrival_next_or_refused (r : Requester) (s : State) (kind : Payload → Bool) (deliver : Access → State → State) :
    (∃ t, onArrival r kind s deliver = .next t) ∨ onArrival r kind s deliver = .refused .noSuchAccess := by
  unfold onArrival
  split
  · exact .inr rfl
  · exact .inl ⟨_, rfl⟩
  · exact .inl ⟨_, rfl⟩

/-- The fault report is R190's and R191's. -/
theorem faultReport_reported (k : FaultKind) (address : Addr) (s : State) : FaultReported k address s (faultReport k address s) := by
  have falls : attention (s.mapControl (Control.reported k address)) = true := by
    have : (Control.reported k address s.control).engine = .fault := by unfold Control.reported; split <;> rfl
    simp [attention, this]
  have noted :
      pinStep .attn (!attention s) (!attention (s.mapControl (Control.reported k address))) =
        if attention s = true then [] else [{ pin := .attn, high := false }] := by
    rw [falls]; cases attention s <;> rfl
  constructor <;> intro h <;> unfold faultReport noteAttention attnPinHigh <;> rw [noted] <;>
    simp [State.mapControl, Control.reported, h, sat8, satAdd]

/-! ## Checks that start accesses -/

/-- The ring manager's check is R15's. -/
theorem issueShadowWrite_checked (s : State) : ShadowChecked s (issueShadowWrite s) := by
  unfold ShadowChecked issueShadowWrite
  have conditions :
      (s.rings.shadowOwed ∧ ¬ s.busy shadowRequester ∧ (s.control.engine = .run ∨ s.control.engine = .stopping)) ↔
        (s.rings.shadowOwed = true ∧ s.access shadowRequester = none ∧
          (s.control.engine = .run ∨ s.control.engine = .stopping)) := by
    simp [State.busy_def]
  simp only [conditions]
  split <;> rfl

/-- The command engine's check is R34's and R35's. -/
theorem startCommandFetch_checked (s : State) : CommandFetchChecked s (startCommandFetch s) := by
  unfold CommandFetchChecked startCommandFetch
  have conditions :
      canFetchCommand s = true ↔
        (s.cmd.phase = .waiting ∧ s.control.engine = .run ∧ s.rings.command.state = .opened ∧ 0 < s.rings.command.count
          ∧ s.rings.reply.count < s.rings.reply.slots - 1) := by
    simp [canFetchCommand, Descriptor.hasFreeSlot, and_assoc]
  simp only [conditions]
  split <;> rfl

/-- The sample intake's check of one ring is R22's and R54's. -/
theorem startSampleFetch_checked (n : Fin 8) (s : State) : SampleFetchChecked n s (startSampleFetch n s) := by
  unfold SampleFetchChecked startSampleFetch fetchStarted
  have conditions :
      canFetchSamples n s = true ↔
        (s.control.engine = .run ∧ s.rings.sample[n].state = .opened ∧ 0 < s.rings.sample[n].count
          ∧ s.access (sampleRequester n) = none) := by
    simp [canFetchSamples, State.busy_def, and_assoc]
  simp only [conditions]
  by_cases h :
      s.control.engine = .run ∧ s.rings.sample[n].state = .opened ∧ 0 < s.rings.sample[n].count ∧ s.access (sampleRequester n) = none
  · simp only [if_pos h]; rfl
  · simp only [if_neg h]

/-- The sample intake's check of one ring sets its requester's access and nothing else. -/
theorem startSampleFetch_eq (n : Fin 8) (s : State) :
    startSampleFetch n s = s.setAccess (sampleRequester n) ((fetchStarted n s).or (s.access (sampleRequester n))) := by
  have h := startSampleFetch_checked n s
  unfold SampleFetchChecked at h
  cases started : fetchStarted n s with
  | none => rw [started] at h; simp only at h; rw [h]; simp [State.setAccess_eta]
  | some a => rw [started] at h; simp only at h; rw [h]; simp

/-- What a sample fetch depends on. -/
theorem fetchStarted_congr {n : Fin 8} {s t : State} (h1 : t.control = s.control) (h2 : t.rings = s.rings)
    (h3 : t.access (sampleRequester n) = s.access (sampleRequester n)) (h4 : t.mau.epoch = s.mau.epoch) :
    fetchStarted n t = fetchStarted n s := by
  simp only [fetchStarted, h1, h2, h3, handed, h4]

/-- The sample intake's checks of a list of rings. -/
theorem startSampleFetches_list (l : List (Fin 8)) (hl : l.Nodup) (s : State) :
    let t := l.foldl (fun t n => startSampleFetch n t) s
    t = { s with mau := { s.mau with inFlight := t.mau.inFlight } } ∧
      (∀ n, n ∈ l → t.access (sampleRequester n) = (fetchStarted n s).or (s.access (sampleRequester n))) ∧
      ∀ r, (∀ n ∈ l, r ≠ sampleRequester n) → t.access r = s.access r := by
  induction l generalizing s with
  | nil => simp
  | cons a l ih =>
    obtain ⟨ha, hl⟩ := List.nodup_cons.1 hl
    have ih := ih hl (startSampleFetch a s)
    simp only [List.foldl_cons] at ih ⊢
    obtain ⟨h1, h2, h3⟩ := ih
    refine ⟨?_, ?_, ?_⟩
    · rw [startSampleFetch_eq] at h1 ⊢
      rw [h1]
      rfl
    · intro n hn
      rcases List.mem_cons.1 hn with rfl | hn
      · rw [h3 _ fun m hm e => ha (by rw [sampleRequester_inj.1 e]; exact hm), startSampleFetch_eq]; simp
      · have hne : sampleRequester n ≠ sampleRequester a := fun e => ha (by rw [← sampleRequester_inj.1 e]; exact hn)
        rw [h2 n hn, startSampleFetch_access _ _ _ hne,
          fetchStarted_congr (by simp) (by simp) (startSampleFetch_access _ _ _ hne) (by simp)]
    · intro r hr
      rw [h3 r fun n hn => hr n (List.mem_cons_of_mem _ hn), startSampleFetch_access _ _ _ (hr a (by simp))]

/-- The sample intake's checks of all eight rings at an entry into RUN (R54, R184). -/
theorem startSampleFetches_checked (s : State) : SampleFetchesChecked s (startSampleFetches s) := by
  have h := startSampleFetches_list (List.finRange 8) (List.nodup_finRange 8) s
  unfold startSampleFetches
  generalize hl : List.finRange 8 = l at h ⊢
  exact ⟨h.1, fun r hr => h.2.2 r fun n _ => hr n, fun n => h.2.1 n (hl ▸ List.mem_finRange n)⟩

/-- The first four conditions of R142. -/
theorem writerReady_iff {n : Fin 4} {s : State} : writerReady n s = true ↔ WriterCan n s := by
  simp [writerReady, WriterCan, State.busy_def, Descriptor.hasFreeSlot, and_assoc]

/-- The four writers' checks, one after the other. -/
theorem checkWriters_eq (s : State) : checkWriters s = checkWriter 3 (checkWriter 2 (checkWriter 1 (checkWriter 0 s))) := by
  simp only [checkWriters, show List.finRange 4 = [0, 1, 2, 3] from rfl, List.foldl]

/-! ## Entries into RUN and the end of STOPPING -/

/-- The rebasing of one stream is R69's. -/
theorem Stream.rebase_eq (time : Time) (x : Stream) : x.rebase time = rebased time x := by
  unfold Stream.rebase rebased Stream.setDeadline Stream.inService deadlineAt
  cases x.state <;> by_cases h : x.timeout = 0 <;> simp [h]

/-- The entry into RUN as its parts (R184). -/
theorem enterRun_eq (s : State) :
    enterRun s = checkWriter 3 (checkWriter 2 (checkWriter 1 (checkWriter 0 (startSampleFetches (startCommandFetch { s with
      control := { s.control with engine := .run }
      streams := Vector.ofFn fun i => rebased s.control.timeBase s.streams[i] }))))) := by
  rw [enterRun, checkWriters_eq]
  simp only [rebaseDeadlines, Stream.rebase_eq]
  rfl

/-- The end condition of STOPPING is R187's. -/
theorem drained_iff_quiet (s : State) : drained s = true ↔ Quiet s := by
  simp [drained, Quiet, State.busy_def, and_assoc]

/-- STOPPING does not end while the command engine is not WAITING. -/
theorem checkStoppingEnd_of_not_waiting {s : State} (h : s.cmd.phase ≠ .waiting) : checkStoppingEnd s = s := by
  unfold checkStoppingEnd
  rw [if_neg]
  rw [drained_iff_quiet]
  rintro ⟨_, _, _, hw⟩
  exact h hw

/-! ## Host commands -/

/-- Where a host command can arrive, a command fetch returns. -/
theorem returns_of_commandArrives {s : State} (h : commandArrives s = true) :
    ∃ a, Returns commandRequester a s ∧ a.payload = .commandFetch := by
  simp only [commandArrives, Bool.and_eq_true, Bool.or_eq_true, beq_iff_eq] at h
  obtain ⟨h1, h2⟩ := h
  cases ha : s.access commandRequester with
  | none => rw [ha] at h2; cases h2
  | some a =>
    rw [ha] at h2
    simp only [Bool.and_eq_true, beq_iff_eq] at h2
    exact ⟨a, ⟨ha, h2.2, by intro hf; rw [hf] at h1; simp at h1⟩, h2.1⟩

/-- The row of a host command, as the taking of the command and its owner's answer (R36, R38, R42). -/
theorem onCommandFetch_eq {s : State} (h : commandArrives s = true) (rec : CommandRecord) (owner : State → Answer) :
    onCommandFetch rec owner s = .next (issueShadowWrite (answerCommand rec (owner (taken rec s)) (taken rec s))) := by
  obtain ⟨a, hr, hp⟩ := returns_of_commandArrives h
  unfold onCommandFetch
  rw [onArrival_of_returns hr (by rw [hp]; rfl)]
  unfold takeCommand
  dsimp only
  rw [show holdCommand rec (s.setAccess commandRequester none) = taken rec s from rfl, checkStoppingEnd_of_not_waiting]
  have replying : ∀ a : Answer, (answerCommand rec a (taken rec s)).cmd.phase ≠ .waiting := by
    intro a; cases a <;> simp [answerCommand, sendReply, taken]
  simpa using replying _

/-- A command whose owner answers at once. -/
theorem answers_of_done {s : State} (h : commandArrives s = true) {i : Instr} {rec : CommandRecord} {owner : State → Answer}
    {status : Status} {words : Words} {u : State} (row : exec i s = onCommandFetch rec owner s)
    (answer : owner (taken rec s) = .done status words u) : Answers i s rec status words u := by
  refine ⟨_, by rw [row, onCommandFetch_eq h], ?_⟩
  rw [answer]
  exact issueShadowWrite_checked _

/-- A command that its owner refuses (R40). -/
theorem refuses_of_refuse {s : State} (h : commandArrives s = true) {i : Instr} {rec : CommandRecord} {owner : State → Answer}
    {status : Status} (row : exec i s = onCommandFetch rec owner s) (answer : owner (taken rec s) = refuse status (taken rec s)) :
    Refuses i s rec status :=
  answers_of_done h row answer

/-- A command that waits (R39). -/
theorem waits_of_waits {s : State} (h : commandArrives s = true) {i : Instr} {rec : CommandRecord} {owner : State → Answer}
    (row : exec i s = onCommandFetch rec owner s) (answer : owner (taken rec s) = .waits) : Waits i s rec := by
  refine ⟨_, by rw [row, onCommandFetch_eq h], ?_⟩
  rw [answer]
  exact issueShadowWrite_checked _

/-- Taking a command leaves the accesses of the sample rings. -/
theorem taken_access_sample (rec : CommandRecord) (s : State) (n : Fin 8) :
    (taken rec s).access (sampleRequester n) = s.access (sampleRequester n) :=
  State.access_setAccess_ne s _ _ none (by revert n; decide)

/-- Taking a command leaves the accesses of the event rings. -/
theorem taken_access_event (rec : CommandRecord) (s : State) (n : Fin 4) :
    (taken rec s).access (eventRequester n) = s.access (eventRequester n) :=
  State.access_setAccess_ne s _ _ none (by revert n; decide)

@[simp] theorem taken_control (rec : CommandRecord) (s : State) : (taken rec s).control = s.control := rfl
@[simp] theorem taken_sample (rec : CommandRecord) (s : State) : (taken rec s).rings.sample = s.rings.sample := rfl
@[simp] theorem taken_event (rec : CommandRecord) (s : State) : (taken rec s).rings.event = s.rings.event := rfl
@[simp] theorem taken_reply (rec : CommandRecord) (s : State) : (taken rec s).rings.reply = s.rings.reply := rfl
@[simp] theorem taken_streams (rec : CommandRecord) (s : State) : (taken rec s).streams = s.streams := rfl
@[simp] theorem taken_watches (rec : CommandRecord) (s : State) : (taken rec s).watches = s.watches := rfl
@[simp] theorem taken_pool (rec : CommandRecord) (s : State) : (taken rec s).pool = s.pool := rfl
@[simp] theorem taken_delivery (rec : CommandRecord) (s : State) : (taken rec s).delivery = s.delivery := rfl
@[simp] theorem taken_alarms (rec : CommandRecord) (s : State) : (taken rec s).alarms = s.alarms := rfl
@[simp] theorem taken_pending (rec : CommandRecord) (s : State) : (taken rec s).pending = s.pending := rfl

/-! ## Watches -/

/-- A run break is R112's. -/
theorem Watch.breakRun_eq (w : Watch) : w.breakRun = brokenRun w := by
  unfold Watch.breakRun brokenRun Watch.settle; cases h : w.state <;> simp

/-- A second run break changes nothing. -/
theorem brokenRun_idem (w : Watch) : brokenRun (brokenRun w) = brokenRun w := by
  unfold brokenRun; cases h : w.state <;> simp

/-- Run breaks of a list of watches, one after the other. -/
theorem breakWatch_list (l : List (Fin 128)) (s : State) : l.foldl (fun t id => breakWatch id t) s = runsBroken l s := by
  induction l generalizing s with
  | nil => simp [runsBroken]
  | cons a l ih =>
    rw [List.foldl_cons, ih]
    have first : breakWatch a s = { s with watches := s.watches.set a (s.watches[a].map brokenRun) } := by
      unfold breakWatch
      cases h : s.watches[a] with
      | none => simp; rw [← h]; simp
      | some w => simp [State.setWatch, Watch.breakRun_eq]
    rw [first]
    unfold runsBroken
    simp only [State.mk.injEq, true_and, and_true]
    apply Vector.ext
    intro i hi
    simp only [Vector.getElem_ofFn, Fin.getElem_fin, Vector.getElem_set, List.mem_cons]
    by_cases h : a.val = i
    · have ha : a = ⟨i, hi⟩ := Fin.ext h
      subst ha
      simp only [if_pos, true_or]
      cases s.watches[i] <;> simp [brokenRun_idem]
    · rw [if_neg h]
      have : (⟨i, hi⟩ : Fin 128) ≠ a := by intro e; subst e; exact h rfl
      simp [this]

/-- The run breaks of a stream are those of its watch list (R113). -/
theorem breakStream_eq (i : Fin 64) (s : State) : breakStream i s = runsBroken s.streams[i].watchList s := breakWatch_list _ _

@[simp] theorem runsBroken_control (l : List (Fin 128)) (s : State) : (runsBroken l s).control = s.control := by unfold runsBroken; rfl
@[simp] theorem runsBroken_mau (l : List (Fin 128)) (s : State) : (runsBroken l s).mau = s.mau := by unfold runsBroken; rfl
@[simp] theorem runsBroken_rings (l : List (Fin 128)) (s : State) : (runsBroken l s).rings = s.rings := by unfold runsBroken; rfl
@[simp] theorem runsBroken_cmd (l : List (Fin 128)) (s : State) : (runsBroken l s).cmd = s.cmd := by unfold runsBroken; rfl
@[simp] theorem runsBroken_streams (l : List (Fin 128)) (s : State) : (runsBroken l s).streams = s.streams := by unfold runsBroken; rfl
@[simp] theorem runsBroken_pool (l : List (Fin 128)) (s : State) : (runsBroken l s).pool = s.pool := by unfold runsBroken; rfl

/-- A begin report is R161's, R163's and R164's. -/
theorem beginContribution_eq (line : Option (Fin 4)) (s : State) : beginContribution line s = contributionBegun line s := by
  cases line <;> rfl

/-- An end report is R161's, R163's and R164's. -/
theorem endContribution_eq (line : Option (Fin 4)) (s : State) : endContribution line s = contributionEnded line s := by
  cases line with
  | none => rfl
  | some a =>
    have : decide (0 < s.alarms[a].count - 1) = decide (1 < s.alarms[a].count) := decide_eq_decide.2 (by omega)
    cases h : s.alarms[a].mode <;> simp only [endContribution, contributionEnded, AlarmLine.endReport, h, this]

/-- A persistence count is a number from 1 to 16 (R84). -/
theorem persistenceCount_eq_some {b : Byte} {k : Nat} : persistenceCount b = some k ↔ 1 ≤ b.toNat ∧ b.toNat ≤ 16 ∧ k = b.toNat := by
  unfold persistenceCount
  split
  · simp only [Option.some.injEq]
    constructor
    · rintro rfl; omega
    · rintro ⟨_, _, h⟩; exact h.symm
  · simp only [reduceCtorEq, false_iff]; omega

/-- The changeable fields of parameters that are in range and consistent (R84, R85). -/
theorem changeableFields_of_good {kind : WatchKind} {p : WatchParams} {l : Level} (good : GoodFields kind p) (hl : p.level.toNat = l.val) :
    changeableFields kind p =
      some { upper := p.upper, lower := p.lower, hysteresis := p.hysteresis, na := p.na.toNat, nc := p.nc.toNat, level := l } := by
  obtain ⟨-, hna, hnc, hh, hc⟩ := good
  have checks : consistent kind p.upper.toInt p.lower.toInt p.hysteresis.toNat = true := by
    revert hc; cases kind <;> simp [consistent]
  unfold changeableFields
  rw [fieldBelow_eq_some.2 hl, persistenceCount_eq_some.2 ⟨hna.1, hna.2, rfl⟩, persistenceCount_eq_some.2 ⟨hnc.1, hnc.2, rfl⟩]
  dsimp only
  rw [if_pos ⟨hh, checks⟩]

/-- Parameters with changeable fields are in range and consistent (R84, R85). -/
theorem good_of_changeableFields {kind : WatchKind} {p : WatchParams} {c : Changeable} (h : changeableFields kind p = some c) :
    GoodFields kind p := by
  unfold changeableFields at h
  split at h
  · rename_i level na nc hl hna hnc
    split at h
    · rename_i checks
      have hna := persistenceCount_eq_some.1 hna
      have hnc := persistenceCount_eq_some.1 hnc
      refine ⟨by rw [fieldBelow_eq_some.1 hl]; exact level.isLt, ⟨hna.1, hna.2.1⟩, ⟨hnc.1, hnc.2.1⟩, checks.1, ?_⟩
      have hc := checks.2
      revert hc
      cases kind <;> simp [consistent]
    · cases h
  · cases h

/-- A watch id goes into its ordered place of a list (R86). -/
theorem insertId_ordered {id : Fin 128} {l below above : List (Fin 128)} (hl : l = below ++ above) (hb : ∀ y ∈ below, y < id)
    (ha : ∀ y ∈ above, id < y) : insertId id l = below ++ id :: above := by
  subst hl
  induction below with
  | nil =>
    cases above with
    | nil => rfl
    | cons y above => simp only [List.nil_append, insertId]; rw [if_pos (ha y (by simp))]
  | cons y below ih =>
    simp only [List.cons_append, insertId]
    rw [if_neg (not_lt.2 (hb y (by simp)).le), ih fun z hz => hb z (by simp [hz])]

/-! ## The pending pool -/

/-- A source has no pending entry. -/
theorem pendingOf_eq_none {x : Source} {pool : List PendingEntry} : pendingOf x pool = none ↔ ∀ e ∈ pool, e.source ≠ x := by
  simp [pendingOf]

/-- The pending entry of a source stands where no earlier entry is of the source. -/
theorem pendingOf_append {x : Source} {older younger : List PendingEntry} {p : PendingEntry} (hp : p.source = x)
    (ho : ∀ e ∈ older, e.source ≠ x) : pendingOf x (older ++ p :: younger) = some p := by
  unfold pendingOf
  rw [List.find?_append, List.find?_eq_none.2 (by simpa using ho)]
  simp [hp]

/-- A source has a pending entry. -/
theorem hasPending_iff (x : Source) (s : State) : hasPending x s = true ↔ ∃ e ∈ s.pool, e.source = x := by
  rw [hasPending, ← not_iff_not, Bool.not_eq_true, Option.isSome_eq_false_iff, Option.isNone_iff_eq_none, pendingOf_eq_none]
  simp

/-- The greater of two levels. -/
theorem maxLevel_eq_max (a b : Level) : maxLevel a b = max a b := by
  unfold maxLevel
  rw [max_def]
  split
  · rename_i h; rw [if_pos h.le]
  · rename_i h
    split
    · exact le_antisymm ‹_› (not_lt.1 h)
    · rfl

end Sys2Proof.Machine
end

