-- ==== Sys2Proof/Laws/Fields.lean ====
section
/-!
SUPPORT. Fields of records as numbers (R199): what `littleEndian` and `field` are of the bytes the model writes and of the fields it reads,
and the fields of a POST word. Proofs about records cite these and unfold no field.
-/

namespace Sys2Proof.Machine

/-! ## Bytes that are written -/

/-- Bytes after others weigh by the number of the others. -/
theorem littleEndian_append (a b : List Byte) : littleEndian (a ++ b) = littleEndian a + 256 ^ a.length * littleEndian b := by
  induction a with
  | nil => simp [littleEndian]
  | cons x a ih =>
    rw [List.cons_append, littleEndian, ih, littleEndian, List.length_cons, Nat.pow_succ]
    ring

@[simp] theorem littleEndian_byte (b : Byte) : littleEndian [b] = b.toNat := by simp [littleEndian]

@[simp] theorem littleEndian_bytes16 (x : BitVec 16) : littleEndian (bytes16 x) = x.toNat := by
  have := x.isLt
  simp only [bytes16, littleEndian, BitVec.extractLsb'_toNat, Nat.shiftRight_eq_div_pow]
  omega

@[simp] theorem littleEndian_bytes32 (x : Word) : littleEndian (bytes32 x) = x.toNat := by
  have := x.isLt
  rw [bytes32, littleEndian_append, littleEndian_bytes16, littleEndian_bytes16]
  simp only [bytes16, BitVec.extractLsb'_toNat, Nat.shiftRight_eq_div_pow, List.length_cons, List.length_nil]
  omega

@[simp] theorem littleEndian_bytes64 (x : Addr) : littleEndian (bytes64 x) = x.toNat := by
  have := x.isLt
  rw [bytes64, littleEndian_append, littleEndian_bytes32, littleEndian_bytes32]
  simp only [bytes32, bytes16, BitVec.extractLsb'_toNat, Nat.shiftRight_eq_div_pow, List.length_append, List.length_cons,
    List.length_nil]
  omega

/-- The field that the bytes between two others spell. -/
theorem field_append (before bytes after : List Byte) :
    field (before ++ (bytes ++ after)) before.length bytes.length = littleEndian bytes := by
  simp [field]

/-! ## Fields that are read -/

theorem field_byte {bytes : List Byte} {i : Nat} (h : i < bytes.length) : field bytes i 1 = (byteAt bytes i).toNat := by
  unfold field byteAt
  rw [List.drop_eq_getElem_cons h, List.take_succ_cons]
  simp [List.getD_eq_getElem?_getD, h]

/-- A field is its lower bytes and its upper bytes. -/
theorem field_add {bytes : List Byte} {i a : Nat} (b : Nat) (h : i + a ≤ bytes.length) :
    field bytes i (a + b) = field bytes i a + 256 ^ a * field bytes (i + a) b := by
  unfold field
  rw [List.take_add, littleEndian_append, List.drop_drop, List.length_take, List.length_drop, Nat.min_eq_left (by omega)]

theorem field_le16 {bytes : List Byte} {i : Nat} (h : i + 1 < bytes.length) : field bytes i 2 = (le16 bytes i).toNat := by
  rw [show (2 : Nat) = 1 + 1 from rfl, field_add 1 (by omega), field_byte (by omega), field_byte h, le16, BitVec.toNat_append,
    Nat.shiftLeft_eq, Nat.mul_comm _ (2 ^ _), ← Nat.two_pow_add_eq_or_of_lt (byteAt bytes i).isLt]
  omega

theorem field_le32 {bytes : List Byte} {i : Nat} (h : i + 3 < bytes.length) : field bytes i 4 = (le32 bytes i).toNat := by
  rw [show (4 : Nat) = 2 + 2 from rfl, field_add 2 (by omega), field_le16 (by omega), field_le16 h, le32, BitVec.toNat_append,
    Nat.shiftLeft_eq, Nat.mul_comm _ (2 ^ _), ← Nat.two_pow_add_eq_or_of_lt (le16 bytes i).isLt]
  omega

theorem field_le64 {bytes : List Byte} {i : Nat} (h : i + 7 < bytes.length) : field bytes i 8 = (le64 bytes i).toNat := by
  rw [show (8 : Nat) = 4 + 4 from rfl, field_add 4 (by omega), field_le32 (by omega), field_le32 h, le64, BitVec.toNat_append,
    Nat.shiftLeft_eq, Nat.mul_comm _ (2 ^ _), ← Nat.two_pow_add_eq_or_of_lt (le32 bytes i).isLt]
  omega

/-- The setup block is its fields at the offsets of R200. -/
theorem setupBlock_eq (bytes : Vector Byte 28) : setupBlock bytes.toList = setupFields bytes.toList := by
  unfold setupFields setupBlock
  rw [field_le64, field_le64, field_le64, field_le16, field_le16] <;> simp

/-- A sample record is its fields at the offsets of R204. -/
theorem sampleRecord_eq (bytes : Vector Byte 8) : sampleRecord bytes.toList = sampleFields bytes.toList := by
  unfold sampleFields sampleRecord
  rw [field_byte, field_byte, field_le16, field_le32] <;> simp [-List.getElem_toArray, BitVec.getLsbD, Nat.testBit_zero]

/-! ## The POST word (R207) -/

theorem postIndex_eq (word : Word) : postIndex word = word.toNat % 4096 := by
  simp [postIndex, BitVec.extractLsb'_toNat]

theorem postSelector_eq (word : Word) : postSelector word = word.toNat / 4096 % 16 := by
  simp [postSelector, BitVec.extractLsb'_toNat, Nat.shiftRight_eq_div_pow]

end Sys2Proof.Machine
end

