-- ==== Sys2Proof/Laws/PerInstr.lean ====
section
/-!
SUPPORT. The family `RowRequest`, one lemma per row: a row that is a host command is the row of its own header and request, and its
request is well formed where the row is; every other row is no host command (R37, R201).
-/

namespace Sys2Proof.Laws

/-- What `Instr.request` reads from a row is what `rowOf` spells the row from. -/
def RowRequest.Statement (i : Instr) : Prop :=
  ∀ h q, i.request = some (h, q) → rowOf h q = i ∧ (WellFormed i = true → q.wellFormed = true)

/-- A row that is no host command. -/
theorem rowRequest_of_none {i : Instr} (hi : i.request = none) : RowRequest.Statement i :=
  fun h q e => absurd (hi.symm.trans e) (by simp)

/-- A host command's row. -/
theorem rowRequest_of_some {i : Instr} {g : CmdHeader} {p : Request} (hi : i.request = some (g, p)) (row : rowOf g p = i)
    (wf : WellFormed i = true → p.wellFormed = true) : RowRequest.Statement i := by
  intro h q e
  obtain ⟨rfl, rfl⟩ := Prod.mk.inj (Option.some.inj (hi.symm.trans e))
  exact ⟨row, wf⟩

theorem RowRequest.start : RowRequest.Statement .start := rowRequest_of_none rfl
theorem RowRequest.stop : RowRequest.Statement .stop := rowRequest_of_none rfl
theorem RowRequest.reset : RowRequest.Statement .reset := rowRequest_of_none rfl
theorem RowRequest.setupLo (value : Word) : RowRequest.Statement (.setupLo value) := rowRequest_of_none rfl
theorem RowRequest.setupHi (value : Word) : RowRequest.Statement (.setupHi value) := rowRequest_of_none rfl
theorem RowRequest.producerPost (word : Word) : RowRequest.Statement (.producerPost word) := rowRequest_of_none rfl
theorem RowRequest.consumerPost (word : Word) : RowRequest.Statement (.consumerPost word) := rowRequest_of_none rfl
theorem RowRequest.timeLoRead (lanes : BitVec 4) : RowRequest.Statement (.timeLoRead lanes) := rowRequest_of_none rfl
theorem RowRequest.registerWriteIgnored (offset : Nat) (lanes : BitVec 4) (value : Word) :
    RowRequest.Statement (.registerWriteIgnored offset lanes value) := rowRequest_of_none rfl
theorem RowRequest.hardwareReset : RowRequest.Statement .hardwareReset := rowRequest_of_none rfl
theorem RowRequest.rstNRelease : RowRequest.Statement .rstNRelease := rowRequest_of_none rfl
theorem RowRequest.memoryAccessGrant : RowRequest.Statement .memoryAccessGrant := rowRequest_of_none rfl
theorem RowRequest.setupReadCompletion (result : Completion (Vector Byte 28)) :
    RowRequest.Statement (.setupReadCompletion result) := rowRequest_of_none rfl
theorem RowRequest.commandFetchCompletion (result : Completion (Vector Byte 32)) :
    RowRequest.Statement (.commandFetchCompletion result) := rowRequest_of_none rfl
theorem RowRequest.replyWriteCompletion (result : Completion Unit) :
    RowRequest.Statement (.replyWriteCompletion result) := rowRequest_of_none rfl
theorem RowRequest.shadowWriteCompletion (result : Completion Unit) :
    RowRequest.Statement (.shadowWriteCompletion result) := rowRequest_of_none rfl
theorem RowRequest.sampleFetchCompletion (ring : Fin 8) (result : Completion (List (Vector Byte 8))) :
    RowRequest.Statement (.sampleFetchCompletion ring result) := rowRequest_of_none rfl
theorem RowRequest.eventWriteCompletion (ring : Fin 4) (result : Completion Unit) :
    RowRequest.Statement (.eventWriteCompletion ring result) := rowRequest_of_none rfl
theorem RowRequest.overrunWriteCompletion (ring : Fin 4) (result : Completion Unit) :
    RowRequest.Statement (.overrunWriteCompletion ring result) := rowRequest_of_none rfl
theorem RowRequest.completionDiscarded (requester : Requester) (epoch : Nat) :
    RowRequest.Statement (.completionDiscarded requester epoch) := rowRequest_of_none rfl
theorem RowRequest.silenceExpiry (stream : Fin 64) : RowRequest.Statement (.silenceExpiry stream) := rowRequest_of_none rfl
theorem RowRequest.nop (h : CmdHeader) : RowRequest.Statement (.nop h) := rowRequest_of_some rfl rfl (fun _ => rfl)
theorem RowRequest.unknownCommand (code : Byte) (h : CmdHeader) :
    RowRequest.Statement (.unknownCommand code h) := rowRequest_of_some rfl rfl id
theorem RowRequest.openSampleRing (h : CmdHeader) (base : Addr) (slots : BitVec 16) :
    RowRequest.Statement (.openSampleRing h base slots) := rowRequest_of_some rfl rfl (fun _ => rfl)
theorem RowRequest.closeSampleRing (h : CmdHeader) :
    RowRequest.Statement (.closeSampleRing h) := rowRequest_of_some rfl rfl (fun _ => rfl)
theorem RowRequest.openEventRing (h : CmdHeader) (base : Addr) (slots : BitVec 16) (notify floor : Byte) :
    RowRequest.Statement (.openEventRing h base slots notify floor) := rowRequest_of_some rfl rfl (fun _ => rfl)
theorem RowRequest.closeEventRing (h : CmdHeader) :
    RowRequest.Statement (.closeEventRing h) := rowRequest_of_some rfl rfl (fun _ => rfl)
theorem RowRequest.queryRing (h : CmdHeader) : RowRequest.Statement (.queryRing h) := rowRequest_of_some rfl rfl (fun _ => rfl)
theorem RowRequest.bindStream (h : CmdHeader) (p : BindParams) :
    RowRequest.Statement (.bindStream h p) := rowRequest_of_some rfl rfl (fun _ => rfl)
theorem RowRequest.unbindStream (h : CmdHeader) :
    RowRequest.Statement (.unbindStream h) := rowRequest_of_some rfl rfl (fun _ => rfl)
theorem RowRequest.reviveStream (h : CmdHeader) :
    RowRequest.Statement (.reviveStream h) := rowRequest_of_some rfl rfl (fun _ => rfl)
theorem RowRequest.queryStream (h : CmdHeader) : RowRequest.Statement (.queryStream h) := rowRequest_of_some rfl rfl (fun _ => rfl)
theorem RowRequest.createWatch (h : CmdHeader) (p : WatchParams) :
    RowRequest.Statement (.createWatch h p) := rowRequest_of_some rfl rfl (fun _ => rfl)
theorem RowRequest.modifyWatch (h : CmdHeader) (p : WatchParams) :
    RowRequest.Statement (.modifyWatch h p) := rowRequest_of_some rfl rfl (fun _ => rfl)
theorem RowRequest.deleteWatch (h : CmdHeader) : RowRequest.Statement (.deleteWatch h) := rowRequest_of_some rfl rfl (fun _ => rfl)
theorem RowRequest.armWatch (h : CmdHeader) : RowRequest.Statement (.armWatch h) := rowRequest_of_some rfl rfl (fun _ => rfl)
theorem RowRequest.disarmWatch (h : CmdHeader) : RowRequest.Statement (.disarmWatch h) := rowRequest_of_some rfl rfl (fun _ => rfl)
theorem RowRequest.ackWatch (h : CmdHeader) : RowRequest.Statement (.ackWatch h) := rowRequest_of_some rfl rfl (fun _ => rfl)
theorem RowRequest.queryWatch (h : CmdHeader) : RowRequest.Statement (.queryWatch h) := rowRequest_of_some rfl rfl (fun _ => rfl)
theorem RowRequest.release (h : CmdHeader) : RowRequest.Statement (.release h) := rowRequest_of_some rfl rfl (fun _ => rfl)
theorem RowRequest.setFloor (h : CmdHeader) (level : Byte) :
    RowRequest.Statement (.setFloor h level) := rowRequest_of_some rfl rfl (fun _ => rfl)
theorem RowRequest.configureAlarm (h : CmdHeader) (mode : Byte) :
    RowRequest.Statement (.configureAlarm h mode) := rowRequest_of_some rfl rfl (fun _ => rfl)
theorem RowRequest.releaseAlarm (h : CmdHeader) :
    RowRequest.Statement (.releaseAlarm h) := rowRequest_of_some rfl rfl (fun _ => rfl)
theorem RowRequest.timeBaseTick : RowRequest.Statement .timeBaseTick := rowRequest_of_none rfl

end Sys2Proof.Laws
end

