-- ==== Sys2Proof/Tests/Slice0.lean ====
section
/-!
SUPPORT. Our own tests: ill-formed operands that WellFormed refuses, bytes and words written out from the spec's own examples, one small
step of every row, and for every statement with hypotheses a state and operands that meet them (`test_witness_…`, one conjunct per
clause). Expected values are the spec's: each docstring names the example or rule they come from.
-/

namespace Sys2Proof.Tests

open Sys2Proof.Machine

/-! ## Helpers -/

/-- The state after a row, or the state before it where the row stops. -/
def after (i : Instr) (s : State) : State :=
  match exec i s with
  | .next t => t
  | .fault _ | .refused _ => s

/-- The row answers a next state. -/
def runs (i : Instr) (s : State) : Bool :=
  match exec i s with
  | .next _ => true
  | .fault _ | .refused _ => false

/-- An access on the host link, of the epoch of `State.reset`. -/
def linked (p : Payload) (address : Addr) : Option Access := some { payload := p, address := address, epoch := 0, phase := .onLink }

/-- A header with an index. -/
def hd (index : BitVec 16) : CmdHeader := { flags := 0, tag := 0x12, index := index }

/-- The descriptor of an OPEN ring. -/
def openRing (base : Addr) (slots producer consumer : Nat) : Descriptor :=
  { state := .opened, base := base, slots := slots, producer := producer, consumer := consumer }

/-- RUN, with the rings of chapter 10: command ring at 10000h and reply ring at 10400h, of 16 slots each. -/
def idleRun : State :=
  { State.reset with
    control := { State.reset.control with engine := .run, timeBase := 5000000 }
    rings :=
      { State.reset.rings with
        command := openRing 0x10000 16 0 0
        reply := { openRing 0x10400 16 0 0 with lap := true, attention := false }
        shadowAddr := 0x10800 } }

/-- The same, with one command posted and its fetch on the link. -/
def up : State :=
  ({ idleRun with
    rings := { idleRun.rings with command := openRing 0x10000 16 1 0 }
    cmd := { phase := .fetching, held := none, reply := none } }).setAccess commandRequester (linked .commandFetch 0x10000)

/-- Sample ring 2 of chapter 10, OPEN with the indices. -/
def sampleRing (producer consumer : Nat) : SampleRing :=
  { openRing 0x20000 256 producer consumer with cause := .noCause, unrouted := 0 }

/-- Event ring 1 of chapter 10, OPEN with the indices. -/
def eventRing (producer consumer : Nat) : EventRing :=
  { openRing 0x30000 8 producer consumer with cause := .noCause, lap := true, attention := false, notify := 3 }

/-- Stream 5 of chapter 10, bound, with watch 12 in its list. -/
def stream5 : Stream :=
  { Stream.atReset with
    state := .bound, sampleRing := 2, eventRing := 1, level := 4, timeout := 200, fallback := some 900
    deadline := some 5200000, watchList := [12] }

/-- Watch 12 of chapter 10, CLEAR. -/
def watch12 : Watch :=
  { stream := 5, kind := .above, target := 1, alarmLine := some 0, hold := true, latch := false, upper := 850, lower := 0,
    hysteresis := 20, na := 3, nc := 2, level := 5, state := .clear, runCounter := 0, acknowledged := false, assertCount := 0,
    lastEvaluated := none }

/-- The installation of chapter 10 on a state: sample ring 2, event ring 1, stream 5 and a watch 12. -/
def installed (w : Watch) (s : State) : State :=
  ((((s.setSampleRing 2 (sampleRing 0 0)).setEventRing 1 (eventRing 0 0)).setDelivery 1
    { baseFloor := 2, floorStack := [], lost := 0, owed := false }).setStream 5 stream5).setWatch 12 (some w)

/-- Watch 12 on the alarm side. -/
def asserted12 : Watch := { watch12 with state := .asserted, assertCount := 1, lastEvaluated := some 890 }

/-- The WATCH_ASSERT of watch 12 as a pending entry. -/
def entry12 : PendingEntry :=
  { target := 1, source := .watch 12, stream := 5, hold := true, firstKind := .watchAssert, lastKind := .watchAssert, foldCount := 0,
    level := 5, value := 890, sequence := 107, time := 5100000, fallback := false }

/-- The bytes of a sample record of stream 5 (R204). -/
def sampleBytes (sequence value : Nat) : Vector Byte 8 :=
  #v[5, 0, BitVec.ofNat 8 sequence, BitVec.ofNat 8 (sequence / 256), BitVec.ofNat 8 value, BitVec.ofNat 8 (value / 256), 0, 0]

/-! ## WellFormed refuses ill-formed operands -/

theorem test_wellFormed_producerPost : WellFormed (.producerPost 0x1003) = false := by decide
theorem test_wellFormed_consumerPost : WellFormed (.consumerPost 0x0003) = false := by decide
theorem test_wellFormed_timeLoRead : WellFormed (.timeLoRead 0) = false := by decide
theorem test_wellFormed_ignored : WellFormed (.registerWriteIgnored 0x04 0xF 1) = false := by decide
theorem test_wellFormed_ignored_post : WellFormed (.registerWriteIgnored 0x14 0xF 0) = false := by decide
theorem test_wellFormed_noRecords : WellFormed (.sampleFetchCompletion 0 (.ok [])) = false := by decide
theorem test_wellFormed_nineRecords :
    WellFormed (.sampleFetchCompletion 0 (.ok (List.replicate 9 (sampleBytes 0 0)))) = false := by decide
theorem test_wellFormed_knownCode : WellFormed (.unknownCommand 0x51 (hd 0)) = false := by decide

/-! ## Bytes and words from the spec's examples -/

/-- The record of 09 section 9.3 (R202): CREATE_WATCH 12, tag 0012h, written out byte by byte. -/
def createWatch12Bytes : Vector Byte 32 :=
  #v[0x30, 0, 0x12, 0, 12, 0, 0, 0, 5, 1, 5, 1, 0, 0x01, 3, 2, 0x52, 0x03, 0, 0, 0, 0, 0, 0, 20, 0, 0, 0, 0, 0, 0, 0]

/-- The parameters of that record. -/
def createWatch12 : WatchParams :=
  { stream := 5, kind := 1, level := 5, target := 1, alarmLine := 0, attributes := 1, na := 3, nc := 2, upper := 850, lower := 0,
    hysteresis := 20 }

theorem test_decode_createWatch :
    (commandRecordOfBytes createWatch12Bytes).request = .createWatch createWatch12 ∧
      (commandRecordOfBytes createWatch12Bytes).tag = 0x12 ∧ (commandRecordOfBytes createWatch12Bytes).index = 12 := by decide

/-- OPEN_EVENT_RING 1, base 30000h, 8 slots, notify 3, base floor 2 (R202). -/
theorem test_decode_openEventRing :
    decodeRequest 0x12 [0, 0, 3, 0, 0, 0, 0, 0, 8, 0, 3, 2] = .openEventRing 0x30000 8 3 2 := by decide

/-- BIND_STREAM to sample ring 2 and event ring 1, level 4, timeout 200 ms, fallback 900 (R202). -/
theorem test_decode_bindStream :
    decodeRequest 0x20 [2, 1, 4, 1, 200, 0, 0, 0, 0x84, 3, 0, 0] =
      .bindStream { sampleRing := 2, eventRing := 1, level := 4, fallbackPresent := 1, timeout := 200, fallback := 900 } := by decide

/-- SET_FLOOR, CONFIGURE_ALARM and a code of none (R201). -/
theorem test_decode_small :
    decodeRequest 0x41 [6] = .setFloor 6 ∧ decodeRequest 0x50 [1] = .configureAlarm 1 ∧ decodeRequest 0x51 [] = .releaseAlarm ∧
      decodeRequest 0x40 [] = .release ∧ decodeRequest 0x0F [] = .unknown 0x0F := by decide

/-- IDENT reads 0002_7324h (09 section 9.8). -/
theorem test_ident : registerRead State.reset 0x00 0xF = 0x00027324 := by decide

/-- STATUS of the example of 09 section 9.8. -/
theorem test_status_example :
    registerRead
      (({ up with rings := { up.rings with reply := { up.rings.reply with attention := true } } }.setEventRing 1
        { eventRing 1 0 with attention := true }).setSampleRing 3 { sampleRing 0 0 with state := .faulted, cause := .badPost })
      0x08 0xF = 0x010082A2 := by decide

/-- The record of the entry of watch 12 (R205): lap, kind, level, fold count, watch, stream, flags, sequence, value, time. -/
theorem test_eventRecord_bytes :
    (EventRecord.entry true entry12).bytes =
      [1, 1, 5, 0, 12, 5, 0, 0, 107, 0, 0, 0, 0x7A, 3, 0, 0, 0xE0, 0xD1, 0x4D, 0, 0, 0, 0, 0, 0, 0, 0, 0, 0, 0, 0, 0] := by decide

/-- An OVERRUN record of 3 losses (R145, R205). -/
theorem test_overrunRecord_bytes :
    (EventRecord.overrun false 3 0x010203).bytes =
      [0, 4, 7, 0, 0xFF, 0, 0, 0, 0, 0, 0, 0, 0, 0, 0, 0, 3, 2, 1, 0, 0, 0, 0, 0, 3, 0, 0, 0, 0, 0, 0, 0] := by decide

/-- The reply of CREATE_WATCH 12 (09 section 9.3, R203). -/
theorem test_replyRecord_bytes :
    ({ lap := true, status := .ok, tag := 0x12, code := 0x30, words := { w0 := 1 } } : ReplyRecord).bytes =
      [1, 0, 0x12, 0, 0x30, 0, 0, 0, 0, 0, 0, 0, 0, 0, 0, 0, 1, 0, 0, 0, 0, 0, 0, 0, 0, 0, 0, 0, 0, 0, 0, 0] := by decide

/-- The verdict bands of 04 section 4.2. -/
theorem test_verdict_bands :
    (watch12.verdict 851 none, watch12.verdict 850 none, watch12.verdict 831 none, watch12.verdict 830 none) =
        (some .fire, some .neutral, some .neutral, some .clear) ∧
      (let w := { watch12 with kind := .outside, upper := 60, lower := -40, hysteresis := 10 }
       (w.verdict 61 none, w.verdict 51 none, w.verdict 50 none, w.verdict (-30) none, w.verdict (-40) none, w.verdict (-41) none) =
         (some .fire, some .neutral, some .clear, some .clear, some .neutral, some .fire)) := by decide

theorem test_verdict_step :
    let w := { watch12 with kind := .step, upper := 25, hysteresis := 5 }
    (w.verdict 19 (some (-3)), w.verdict 23 (some (-3)), w.verdict (-23) (some (-3)), w.verdict 23 none) =
      (some .neutral, some .fire, some .clear, none) := by decide

/-- The posts of 01 section 1.4. -/
theorem test_post_example :
    let d := openRing 0 16 5 3
    (d.validProducerPost 9, d.validProducerPost 5, d.validProducerPost 2, d.validProducerPost 4, d.validProducerPost 3,
        d.validProducerPost 20) = (true, true, true, false, false, false) ∧
      (let e := openRing 0 8 6 2
       (e.validConsumerPost 5, e.validConsumerPost 6, e.validConsumerPost 2, e.validConsumerPost 7) =
         (true, true, true, false)) := by decide

/-- The sequence check of 03 section 3.3. -/
theorem test_sequence_example :
    (sequenceCheck (some 65534) 1, sequenceCheck (some 65534) 65534, sequenceCheck (some 1) 65535, sequenceCheck none 65533) =
      (.gap 2, .stale, .stale, .inOrder) := by decide

/-- No word of the table spells a command: no row gives bits. -/
theorem test_decodeTableWord : decodeTableWord 8 0 = none := by decide

/-! ## One small step of each row -/

theorem test_start : (after .start State.reset).control.engine = .loading ∧
    (after .start State.reset).access 1 = handed State.reset .setupRead 0 := by decide
theorem test_start_stopping :
    (after .start (idleRun.setEngine .stopping)).control.heldStart = true := by decide
theorem test_stop : (after .stop idleRun).control.engine = .stopped := by decide
theorem test_stop_busy : (after .stop up).control.engine = .stopping := by decide
theorem test_reset : (after .reset up).control.engine = .idle ∧ (after .reset up).mau.epoch = 1 ∧
    (after .reset up).mau.stale.length = 1 := by decide
theorem test_setupLo : (after (.setupLo 0x8000) State.reset).control.setupAddr = 0x8000 := by decide
theorem test_setupHi : (after (.setupHi 0x8000) State.reset).control.setupAddr = 0x800000000000 := by decide
theorem test_producerPost : (after (.producerPost 0x0006) idleRun).access 1 = handed idleRun .commandFetch 0x10000 := by decide
theorem test_producerPost_bad :
    (after (.producerPost 0x0010) idleRun).control.faultKind = .commandPostInvalid := by decide
theorem test_consumerPost :
    (after (.consumerPost 0xB006) (idleRun.setEventRing 1 { eventRing 6 2 with attention := true })).rings.event[1].attention =
      false := by decide
theorem test_consumerPost_bad :
    (after (.consumerPost 0xB007) (idleRun.setEventRing 1 (eventRing 6 2))).rings.event[1].cause = .badPost := by decide
/-- The time base of 08 section 8.6. -/
theorem test_timeLoRead :
    let t := after (.timeLoRead 0xF) { State.reset with control := { State.reset.control with timeBase := 0x100000005 } }
    t.readData = 5 ∧ t.control.timeCapture = 1 := by decide
theorem test_timeLoRead_byte :
    (after (.timeLoRead 2) { State.reset with control := { State.reset.control with timeBase := 0x12345678 } }).readData =
      0x5600 := by decide
theorem test_registerWriteIgnored : (after (.registerWriteIgnored 0x04 0x1 1) State.reset).control = State.reset.control := by decide
theorem test_hardwareReset : (after .hardwareReset up).control.rstAsserted = true ∧
    (after .hardwareReset up).control.timeBase = 0 := by decide
theorem test_rstNRelease : (after .rstNRelease (after .hardwareReset up)).control.rstAsserted = false := by decide
theorem test_grant : (after .memoryAccessGrant (after .start State.reset)).access 1 = linked .setupRead 0 := by decide

/-- The setup block of chapter 10: 10000h, 10400h, 10800h, 16 and 16 slots (R200). -/
def setup10 : Vector Byte 28 :=
  #v[0, 0, 1, 0, 0, 0, 0, 0, 0, 4, 1, 0, 0, 0, 0, 0, 0, 8, 1, 0, 0, 0, 0, 0, 16, 0, 16, 0]

/-- LOADING, with the setup read on the link. -/
def loading : State := (State.reset.setEngine .loading).setAccess commandRequester (linked .setupRead 0x8000)

theorem test_setupRead : (after (.setupReadCompletion (.ok setup10)) loading).rings = idleRun.rings ∧
    (after (.setupReadCompletion (.ok setup10)) loading).control.engine = .run := by decide
theorem test_setupRead_error :
    (after (.setupReadCompletion .accessError) loading).control.faultKind = .setupReadError ∧
      (after (.setupReadCompletion .accessError) loading).control.faultAddr = 0x8000 := by decide
theorem test_commandFetch :
    ((after (.commandFetchCompletion (.ok createWatch12Bytes)) up).cmd.reply.map ReplyRecord.status) = some .wrongState ∧
      (after (.commandFetchCompletion (.ok createWatch12Bytes)) up).rings.command.consumer = 1 := by decide
theorem test_commandFetch_error : (after (.commandFetchCompletion .accessError) up).control.faultKind = .commandReadError := by decide

/-- The reply of a NOP. -/
def nopReply : ReplyRecord := { lap := true, status := .ok, tag := 0x12, code := 0, words := {} }

/-- REPLYING, with the reply write on the link; the reply ring's producer index is its last slot. -/
def replying : State :=
  ({ idleRun with
    rings := { idleRun.rings with reply := { openRing 0x10400 16 15 10 with lap := true, attention := false } }
    cmd := { phase := .replying, held := some (recordOf (hd 0) .nop), reply := some nopReply } }).setAccess replyRequester
    (linked (.replyWrite nopReply) 0x105E0)

theorem test_replyWrite : (after (.replyWriteCompletion (.ok ())) replying).rings.reply =
    { openRing 0x10400 16 0 10 with lap := false, attention := true } := by decide
theorem test_replyWrite_error : (after (.replyWriteCompletion .accessError) replying).control.faultAddr = 0x105E0 := by decide

/-- RUN, with a shadow write on the link and another owed. -/
def shadowing : State :=
  (idleRun.setShadowOwed true).setAccess shadowRequester (linked (.shadowWrite (List.replicate 9 0)) 0x10800)

theorem test_shadowWrite : (after (.shadowWriteCompletion (.ok ())) shadowing).access 0 =
      handed idleRun (.shadowWrite (List.replicate 9 0)) 0x10800 ∧
    (after (.shadowWriteCompletion (.ok ())) shadowing).rings.shadowOwed = false := by decide
theorem test_shadowWrite_error :
    (after (.shadowWriteCompletion .accessError) shadowing).control.faultKind = .shadowWriteError := by decide

/-- RUN, with a fetch of two records of sample ring 2 on the link. -/
def sampling (w : Watch) : State :=
  ((installed w idleRun).setSampleRing 2 (sampleRing 2 0)).setAccess (sampleRequester 2) (linked (.sampleFetch 2) 0x20000)

/-- The first two records of 10 section 10.2. -/
theorem test_sampleFetch :
    let t := after (.sampleFetchCompletion 2 (.ok [sampleBytes 100 840, sampleBytes 101 860])) (sampling watch12)
    t.watches[(12 : Fin 128)] = some { watch12 with state := .pendingAssert, runCounter := 1, lastEvaluated := some 860 } ∧
      t.rings.sample[(2 : Fin 8)].consumer = 2 ∧ t.streams[(5 : Fin 64)].state = .live := by decide
/-- The sixth record of 10 section 10.2: the watch asserts, line 0 is asserted, and the entry is issued to slot 0. -/
theorem test_sampleFetch_asserts :
    let t := after (.sampleFetchCompletion 2 (.ok [sampleBytes 106 885, sampleBytes 107 890]))
      (sampling { watch12 with state := .pendingAssert, runCounter := 1 })
    t.alarms[(0 : Fin 4)].asserted = true ∧
      t.access (eventRequester 1) = handed idleRun (.eventWrite (.entry true { entry12 with time := 5000000 })) 0x30000 := by decide

/-- RUN, with line 0 in FOLLOW at count 1, two watches on it, and a fetch of one record of their stream on the link. -/
def twoOnLine0 (w3 w9 : Watch) : State :=
  (((((sampling watch12).setStream 5 { stream5 with watchList := [3, 9] }).setWatch 3 (some w3)).setWatch 9 (some w9)).setAccess
    (sampleRequester 2) (linked (.sampleFetch 1) 0x20000)).setAlarm 0 { mode := .follow, asserted := true, count := 1 }

/-- A watch whose contribution the value 815 begins, and one whose contribution it ends. -/
def begins815 : Watch := { watch12 with kind := .below, lower := 820, na := 1 }
def ends815 : Watch := { asserted12 with nc := 1 }

/-- R162: in one walk watch 3 ends its contribution and watch 9 begins one, and the pin is deasserted and asserted again; the other way
round the pin stays asserted throughout. -/
theorem test_pin_within_a_walk :
    (after (.sampleFetchCompletion 2 (.ok [sampleBytes 100 815])) (twoOnLine0 ends815 begins815)).pinChanges =
        (twoOnLine0 ends815 begins815).pinChanges ++ [{ pin := .alm 0, high := false }, { pin := .alm 0, high := true }] ∧
      (after (.sampleFetchCompletion 2 (.ok [sampleBytes 100 815])) (twoOnLine0 begins815 ends815)).pinChanges =
        (twoOnLine0 begins815 ends815).pinChanges := by decide

/-- RUN, with the write of a record on event ring 1 on the link. -/
def writing (r : EventRecord) : State :=
  (installed asserted12 idleRun).setAccess (eventRequester 1) (linked (.eventWrite r) 0x30000)

/-- 10 section 10.2: the producer index becomes 1, the attention flag is set, and 5 is pushed. -/
theorem test_eventWrite :
    let t := after (.eventWriteCompletion 1 (.ok ())) (writing (.entry true entry12))
    t.rings.event[(1 : Fin 4)] = { eventRing 1 0 with attention := true } ∧ t.delivery[(1 : Fin 4)].floorStack = [5] := by decide
/-- R195: the attention flag takes ATTN_N low, and the soft reset takes it high again (R197). -/
theorem test_pin_attention :
    let t := after (.eventWriteCompletion 1 (.ok ())) (writing (.entry true entry12))
    t.pinChanges = [{ pin := .attn, high := false }] ∧
      (after .reset t).pinChanges = [{ pin := .attn, high := false }, { pin := .attn, high := true }] := by decide
theorem test_eventWrite_error :
    let t := after (.eventWriteCompletion 1 .accessError) (writing (.entry true entry12))
    t.rings.event[(1 : Fin 4)].cause = .accessError ∧ t.delivery[(1 : Fin 4)].lost = 1 := by decide
/-- R148: the losses of the time in flight stay owed, and the writer issues them at once. -/
theorem test_overrunWrite :
    let t := after (.overrunWriteCompletion 1 (.ok ()))
      ((writing (.overrun true 2 0)).setDelivery 1 { baseFloor := 2, floorStack := [], lost := 5, owed := true })
    t.delivery[(1 : Fin 4)].lost = 3 ∧ t.access (eventRequester 1) = handed idleRun (.eventWrite (.overrun true 3 5000000)) 0x30020 :=
  by decide
theorem test_completionDiscarded :
    (after (.completionDiscarded 1 0) (after .reset up)).mau.stale = [] := by decide

/-- Stream 5 at its deadline. -/
def due : State := (installed watch12 idleRun).mapControl fun c => { c with timeBase := 5200000 }

theorem test_silenceExpiry :
    let t := after (.silenceExpiry 5) due
    t.streams[(5 : Fin 64)].state = .silent ∧ t.watches[(12 : Fin 128)] =
        some { watch12 with state := .asserted, assertCount := 1, lastEvaluated := some 900 } := by decide
set_option maxRecDepth 10000 in
theorem test_timeBaseTick :
    (after .timeBaseTick due).streams[(5 : Fin 64)].state = .silent ∧ (after .timeBaseTick due).control.timeBase = 5200001 := by decide

/-- The status and the words of the reply that a command's row leaves. -/
def reply (i : Instr) (s : State) : Option (Status × Words) := (after i s).cmd.reply.map fun r => (r.status, r.words)

theorem test_nop : reply (.nop (hd 0)) up = some (.ok, {}) := by decide
theorem test_unknownCommand : reply (.unknownCommand 0x0F (hd 0)) up = some (.unknownCommand, {}) := by decide
theorem test_openSampleRing :
    (after (.openSampleRing (hd 2) 0x20000 256) up).rings.sample[(2 : Fin 8)] = sampleRing 0 0 ∧
      reply (.openSampleRing (hd 2) 0x20020 256) up = some (.badArgument, {}) := by decide
theorem test_closeSampleRing :
    reply (.closeSampleRing (hd 2)) (up.setSampleRing 2 { sampleRing 7 4 with unrouted := 9 }) = some (.ok, { w0 := 3, w1 := 9 }) ∧
      reply (.closeSampleRing (hd 2)) (installed watch12 up) = some (.inUse, {}) := by decide
theorem test_openEventRing :
    (after (.openEventRing (hd 1) 0x30000 8 3 2) up).rings.event[(1 : Fin 4)] = eventRing 0 0 ∧
      (after (.openEventRing (hd 1) 0x30000 8 3 2) up).delivery[(1 : Fin 4)].baseFloor = 2 := by decide
theorem test_closeEventRing :
    reply (.closeEventRing (hd 1)) (up.setEventRing 1 (eventRing 6 2)) = some (.ok, { w0 := 4 }) := by decide
theorem test_queryRing :
    reply (.queryRing (hd 0)) up = some (.ok, { w0 := 1, w1 := 0x00010001, w3 := 16 }) ∧
      reply (.queryRing (hd 14)) up = some (.badArgument, {}) := by decide
theorem test_bindStream :
    (after (.bindStream (hd 5) { sampleRing := 2, eventRing := 1, level := 4, fallbackPresent := 1, timeout := 200, fallback := 900 })
      ((up.setSampleRing 2 (sampleRing 0 0)).setEventRing 1 (eventRing 0 0))).streams[(5 : Fin 64)] =
      { stream5 with watchList := [] } := by decide
theorem test_unbindStream : reply (.unbindStream (hd 5)) (installed watch12 up) = some (.inUse, {}) ∧
    reply (.unbindStream (hd 6)) up = some (.notFound, {}) := by decide
theorem test_reviveStream :
    let s := (installed watch12 up).setStream 5 { stream5 with state := .silent, held := true, lastValue := 860, deadline := none }
    reply (.reviveStream (hd 5)) s = some (.ok, { w0 := 1 }) ∧ (after (.reviveStream (hd 5)) s).streams[(5 : Fin 64)] =
      { stream5 with state := .live, lastValue := 860, previous := some 860 } := by decide
/-- Stream 5 at the end of 10 section 10.2, with counters of our own. -/
def live5 : Stream := { stream5 with state := .live, baseline := some 110, lastValue := 815, missing := 2, stale := 1, bad := 1 }

theorem test_queryStream :
    reply (.queryStream (hd 5)) (up.setStream 5 live5) = some (.ok, { w0 := 0x006E0102, w1 := 815, w2 := 0x00010002, w3 := 1 }) := by
  decide
/-- 10 section 10.1: stream 5 list 12; reply word 0 is 1. -/
theorem test_createWatch :
    let s := (installed watch12 up).setWatch 12 none |>.setStream 5 { stream5 with watchList := [] }
    reply (.createWatch (hd 12) createWatch12) s = some (.ok, { w0 := 1 }) ∧
      (after (.createWatch (hd 12) createWatch12) s).watches[(12 : Fin 128)] = some { watch12 with state := .disarmed } := by decide
theorem test_modifyWatch :
    (after (.modifyWatch (hd 12) { createWatch12 with upper := 900, na := 1 })
      (installed { watch12 with state := .pendingAssert, runCounter := 2 } up)).watches[(12 : Fin 128)] =
      some { watch12 with upper := 900, na := 1 } := by decide
theorem test_deleteWatch :
    (after (.deleteWatch (hd 12)) (installed { watch12 with state := .disarmed } up)).streams[(5 : Fin 64)].watchList = [] ∧
      reply (.deleteWatch (hd 12)) (installed watch12 up) = some (.wrongState, {}) := by decide
theorem test_armWatch :
    (after (.armWatch (hd 12)) (installed { watch12 with state := .disarmed } up)).watches[(12 : Fin 128)] = some watch12 := by decide
theorem test_disarmWatch :
    let s := ((installed asserted12 up).setAlarm 0 { mode := .follow, asserted := true, count := 1 }).setPool [entry12]
    reply (.disarmWatch (hd 12)) s = some (.ok, { w0 := 1 }) ∧
      (after (.disarmWatch (hd 12)) s).alarms[(0 : Fin 4)] = { mode := .follow, asserted := false, count := 0 } ∧
      (after (.disarmWatch (hd 12)) s).pool = [] := by decide
/-- The end of the latched watch of 05 section 5.7: HELD to CLEAR, reply word 0 is 1. -/
theorem test_ackWatch :
    let s := (installed { asserted12 with state := .held, latch := true, lastEvaluated := some 1600 } up).setAlarm 0
      { mode := .follow, asserted := true, count := 1 }
    reply (.ackWatch (hd 12)) s = some (.ok, { w0 := 1 }) ∧ (after (.ackWatch (hd 12)) s).alarms[(0 : Fin 4)].count = 0 := by decide
theorem test_queryWatch :
    reply (.queryWatch (hd 12)) (installed { asserted12 with state := .pendingClear, runCounter := 1, acknowledged := true } up) =
      some (.ok, { w0 := 0x00055104, w1 := 890, w2 := 1, w3 := 0x00010105 }) := by decide
/-- 10 section 10.2: RELEASE pops 5, and the reply words are 5, 2, 0. -/
theorem test_release :
    reply (.release (hd 1)) ((installed watch12 up).setDelivery 1 { baseFloor := 2, floorStack := [5], lost := 0, owed := false }) =
      some (.ok, { w0 := 5, w1 := 2, w2 := 0 }) := by decide
theorem test_setFloor :
    reply (.setFloor (hd 1) 6) (installed watch12 up) = some (.ok, { w0 := 2 }) ∧
      (after (.setFloor (hd 1) 6) (installed watch12 up)).delivery[(1 : Fin 4)].baseFloor = 6 := by decide
/-- 10 section 10.1: line 0 LATCH, deasserted, count 0; words 0, 0, 0. -/
theorem test_configureAlarm :
    reply (.configureAlarm (hd 0) 1) up = some (.ok, {}) ∧
      (after (.configureAlarm (hd 0) 1) up).alarms[(0 : Fin 4)].mode = .latch := by decide
/-- 10 section 10.2: RELEASE_ALARM 0 with count 0, reply word 0 equal to 1. -/
theorem test_releaseAlarm :
    reply (.releaseAlarm (hd 0)) (up.setAlarm 0 { mode := .latch, asserted := true, count := 0 }) = some (.ok, { w0 := 1 }) ∧
      reply (.releaseAlarm (hd 0)) (up.setAlarm 0 { mode := .latch, asserted := true, count := 1 }) = some (.stillActive, {}) := by
  decide

/-! ## Witnesses: for each statement with hypotheses, what meets them

One theorem per statement, one conjunct per clause; several hypotheses of one clause stand together on one state. -/

/-- The part with an engine state. -/
def inState (e : EngineState) : State := idleRun.setEngine e

/-- The part in FAULT. -/
def inFault (s : State) : State := s.mapControl fun c => { c with engine := .fault, faultKind := .replyWriteError }

/-- A part with a command that waits in EXECUTING. -/
def waitingFor (h : CmdHeader) (q : Request) (s : State) : State :=
  s.setCmd { phase := .executing, held := some (recordOf h q), reply := none }

/-- A FAULTED sample ring and a FAULTED event ring. -/
def faultedSample : SampleRing := { sampleRing 3 1 with state := .faulted, cause := .badPost }
def faultedEvent : EventRing := { eventRing 3 1 with state := .faulted, cause := .badPost }

/-- `up` with accesses on sample ring 7 and event ring 3, in the given ring states. -/
def busyRings (x : SampleRing) (e : EventRing) : State :=
  (((up.setSampleRing 7 x).setEventRing 3 e).setAccess (sampleRequester 7) (linked (.sampleFetch 2) 0x20000)).setAccess
    (eventRequester 3) (linked (.eventWrite (.overrun true 1 0)) 0x30000)

theorem test_witness_StepRunsTheFrontCommand :
    (State.reset.withPending [.start, .stop]).pending = .start :: [.stop] ∧ State.reset.pending = [] := ⟨rfl, rfl⟩

theorem test_witness_CommandsKeepTheQueue :
    ∃ t, exec .stop (State.reset.withPending [.start]) = .next t := ⟨State.reset.withPending [.start], rfl⟩

theorem test_witness_OnlyMissingAccessesStop :
    (∀ r e, Instr.start ≠ .completionDiscarded r e) ∧ rowRequester .start = none ∧ rowRequester (.nop (hd 0)) = some 1 ∧
      rowRequester (.eventWriteCompletion 3 .accessError) = some 14 := ⟨nofun, rfl, rfl, rfl⟩

/-- R20, R21: the access of an older epoch and the current one in FAULT are discarded, the current one outside FAULT is not, and one of
another epoch is none. -/
theorem test_completionDiscarded_stops :
    runs (.completionDiscarded 1 0) (after .reset up) = true ∧ runs (.completionDiscarded 1 0) (inFault up) = true ∧
      exec (.completionDiscarded 1 0) up = .refused .notDiscarded ∧ exec (.completionDiscarded 1 1) up = .refused .noSuchAccess :=
  ⟨by decide, by decide, rfl, rfl⟩

theorem test_witness_CommandRecordRoundTrip :
    ((Instr.unknownCommand 0x0F (hd 0)).request = some (hd 0, .unknown 0x0F) ∧ WellFormed (.unknownCommand 0x0F (hd 0)) = true) ∧
      ((Instr.createWatch (hd 127) createWatch12).request = some (hd 127, .createWatch createWatch12) ∧
        WellFormed (.createWatch (hd 127) createWatch12) = true) := by decide

theorem test_witness_UnusedBytesAreIgnored : commandArrives up = true := by decide

/-- Counts 7 and 1 on rings of 8 slots, at the ends of both indices. -/
theorem test_witness_RingCountIsTheDifference :
    ((openRing 0 8 7 0).producer < (openRing 0 8 7 0).slots ∧ (openRing 0 8 7 0).consumer < (openRing 0 8 7 0).slots) ∧
      ((openRing 0 8 0 7).producer < (openRing 0 8 0 7).slots ∧ (openRing 0 8 0 7).consumer < (openRing 0 8 0 7).slots) := by decide

theorem test_witness_StatusShowsTheOwners :
    (after .hardwareReset State.reset).control.rstAsserted = true ∧ up.control.rstAsserted = false ∧
      up.control.furtherFaults ≤ 255 ∧ 0x14 ∉ [0x00, 0x04, 0x08, 0x0C, 0x10, 0x18, 0x1C, 0x20, 0x24, 0x28] := by decide

theorem test_witness_StartAndStopCodes :
    (∀ e, (inState e).control.rstAsserted = false ∧ (inState e).control.engine = e) ∧
      ((inState .stopping).mapControl fun c => { c with heldStart := true }).control.engine = .stopping := by
  refine ⟨fun e => ?_, rfl⟩
  cases e <;> decide

theorem test_witness_SoftResetValues :
    let s := (up.setAlarm 1 { mode := .latch, asserted := true, count := 2 })
    s.control.rstAsserted = false ∧ s.alarms[(0 : Fin 4)].mode = .follow ∧ s.alarms[(1 : Fin 4)].mode = .latch := by decide

theorem test_witness_HardwareResetValues : (after .hardwareReset up).control.rstAsserted = true := by decide

theorem test_witness_SetupWritesInIdle :
    (State.reset.control.rstAsserted = false ∧ State.reset.control.engine = .idle) ∧
      (idleRun.control.rstAsserted = false ∧ idleRun.control.engine ≠ .idle) := by decide

theorem test_witness_IgnoredWritesChangeNothing :
    WellFormed (.registerWriteIgnored 0x14 0x7 0) = true ∧ WellFormed (.registerWriteIgnored 0x08 0xF 0) = true ∧
      WellFormed (.registerWriteIgnored 0x04 0xF 4) = true ∧ WellFormed (.registerWriteIgnored 0x04 0xF 0) = true ∧
      (after .hardwareReset up).control.rstAsserted = true := by decide

theorem test_witness_TimeLoReadCaptures :
    idleRun.control.rstAsserted = false ∧ (1 : BitVec 4) ≠ 0 ∧ (after .hardwareReset up).control.rstAsserted = true := by decide

/-- Selectors 14 and 15; selector 0 with the command ring CLOSED, and OPEN with a post to the last and past the last index; selectors 2
and 9 with a CLOSED, an OPEN and a FAULTED ring, and posts of both kinds. -/
theorem test_witness_ProducerPostSorted :
    State.reset.control.rstAsserted = false ∧ State.reset.control.engine = .idle ∧ (inState .loading).control.engine = .loading ∧
    (14 ≤ postSelector 0xE000 ∧ 14 ≤ postSelector 0xF000) ∧
    (idleRun.control.rstAsserted = false ∧ idleRun.control.engine ≠ .idle ∧ idleRun.control.engine ≠ .loading ∧
      postSelector 0x000F = 0 ∧ postSelector 0x0010 = 0) ∧
    ((inState .stopped).setCommandRing Descriptor.atReset).rings.command.state = .closed ∧
    (let d := (openRing 0x10000 16 3 0)
     (d.state ≠ .closed ∧ postIndex 0x000F < d.slots ∧ d.count ≤ ringDiff d.slots (postIndex 0x000F) d.consumer) ∧
       ¬ (postIndex 0x0010 < d.slots ∧ d.count ≤ ringDiff d.slots (postIndex 0x0010) d.consumer)) ∧
    (postSelector 0x2FFF = (0 : Fin 8).val + 2 ∧ postSelector 0x9000 = (7 : Fin 8).val + 2) ∧
    (let r := sampleRing 5 3
     r.state = .opened ∧ (postIndex 0x90FF < r.slots ∧ r.count ≤ ringDiff r.slots (postIndex 0x90FF) r.consumer) ∧
       ¬ (postIndex 0x9100 < r.slots ∧ r.count ≤ ringDiff r.slots (postIndex 0x9100) r.consumer) ∧
       ¬ (postIndex 0x9004 < r.slots ∧ r.count ≤ ringDiff r.slots (postIndex 0x9004) r.consumer)) ∧
    SampleRing.atReset.state = .closed ∧
    (let r := faultedSample
     r.state = .faulted ∧ (postIndex 0x90FF < r.slots ∧ r.count ≤ ringDiff r.slots (postIndex 0x90FF) r.consumer) ∧
       ¬ (postIndex 0x9100 < r.slots ∧ r.count ≤ ringDiff r.slots (postIndex 0x9100) r.consumer)) := by decide

theorem test_witness_ConsumerPostSorted :
    State.reset.control.rstAsserted = false ∧ State.reset.control.engine = .idle ∧ (inState .loading).control.engine = .loading ∧
    (idleRun.control.rstAsserted = false ∧ idleRun.control.engine ≠ .idle ∧ idleRun.control.engine ≠ .loading ∧
      postSelector 0x100F = 1) ∧
    ReplyRing.atReset.state = .closed ∧
    (let r : ReplyRing := { openRing 0x10400 16 15 2 with lap := true, attention := true }
     r.state ≠ .closed ∧
       (postIndex 0x100F < r.slots ∧ ringDiff r.slots (postIndex 0x100F) r.consumer ≤ ringDiff r.slots r.producer r.consumer) ∧
       ¬ (postIndex 0x1010 < r.slots ∧ ringDiff r.slots (postIndex 0x1010) r.consumer ≤ ringDiff r.slots r.producer r.consumer) ∧
       ¬ (postIndex 0x1001 < r.slots ∧ ringDiff r.slots (postIndex 0x1001) r.consumer ≤ ringDiff r.slots r.producer r.consumer)) ∧
    (postSelector 0xA006 = (0 : Fin 4).val + 10 ∧ postSelector 0xD006 = (3 : Fin 4).val + 10) ∧
    EventRing.atReset.state = .closed ∧
    (let r := eventRing 6 2
     r.state = .opened ∧
       (postIndex 0xB006 < r.slots ∧ ringDiff r.slots (postIndex 0xB006) r.consumer ≤ ringDiff r.slots r.producer r.consumer) ∧
       ¬ (postIndex 0xB007 < r.slots ∧ ringDiff r.slots (postIndex 0xB007) r.consumer ≤ ringDiff r.slots r.producer r.consumer) ∧
       ¬ (postIndex 0xB008 < r.slots ∧ ringDiff r.slots (postIndex 0xB008) r.consumer ≤ ringDiff r.slots r.producer r.consumer)) ∧
    (let r := faultedEvent
     r.state = .faulted ∧
       (postIndex 0xB003 < r.slots ∧ ringDiff r.slots (postIndex 0xB003) r.consumer ≤ ringDiff r.slots r.producer r.consumer) ∧
       ¬ (postIndex 0xB004 < r.slots ∧ ringDiff r.slots (postIndex 0xB004) r.consumer ≤ ringDiff r.slots r.producer r.consumer)) := by
  decide

/-- Stream 5 is due and no other one is; on an idle part none is. -/
theorem test_witness_TimeBaseTickCounts :
    let isDue := fun (s : State) (i : Fin 64) =>
      s.control.engine = .run ∧ (s.streams[i].state = .bound ∨ s.streams[i].state = .live) ∧
        s.streams[i].deadline = some s.control.timeBase
    (due.control.rstAsserted = false ∧ isDue due 5 ∧ ∀ j, j ≠ 5 → ¬ isDue due j) ∧
      (idleRun.control.rstAsserted = false ∧ ∀ i : Fin 64, ¬ isDue idleRun i) := by decide

theorem test_witness_SilenceExpiryEffect :
    (¬ (idleRun.control.engine = .run ∧
      (idleRun.streams[(5 : Fin 64)].state = .bound ∨ idleRun.streams[(5 : Fin 64)].state = .live) ∧
      idleRun.streams[(5 : Fin 64)].deadline = some idleRun.control.timeBase)) ∧
    (due.control.engine = .run ∧ due.streams[(5 : Fin 64)].state = .bound ∧
      due.streams[(5 : Fin 64)].deadline = some due.control.timeBase ∧ due.streams[(5 : Fin 64)].fallback = some 900) ∧
    (let s := due.setStream 5 { stream5 with state := .live, level := 0, fallback := none, watchList := [] }
     s.control.engine = .run ∧ s.streams[(5 : Fin 64)].state = .live ∧
       s.streams[(5 : Fin 64)].deadline = some s.control.timeBase ∧ s.streams[(5 : Fin 64)].fallback = none) := by decide

/-- An access that waits on requester `r` alone. -/
def oneWaits (r : Requester) : State :=
  idleRun.setAccess r (some { payload := .eventWrite (.overrun true 1 0), address := 0x30000, epoch := 0, phase := .waiting })

/-- The first candidate, requester 0, and the last one, the requester granted last. -/
theorem test_witness_GrantInRotatingOrder :
    (inFault idleRun).control.engine = .fault ∧ (∀ r a, idleRun.access r = some a → a.phase ≠ .waiting) ∧
    (let a : Access := { payload := .eventWrite (.overrun true 1 0), address := 0x30000, epoch := 0, phase := .waiting }
     (oneWaits 0).control.engine ≠ .fault ∧
       ((0 : Requester).val = ((oneWaits 0).mau.lastGranted.val + 1 + 0) % 15 ∧ (oneWaits 0).access 0 = some a) ∧
       ((14 : Requester).val = ((oneWaits 14).mau.lastGranted.val + 1 + 14) % 15 ∧ (oneWaits 14).access 14 = some a) ∧
       ∀ (k : Nat) (q : Requester) (b : Access), k < 14 → q.val = ((oneWaits 14).mau.lastGranted.val + 1 + k) % 15 →
         (oneWaits 14).access q = some b → b.phase ≠ .waiting) := by
  have h : ∀ r, idleRun.access r = none := by decide
  have h' : ∀ q : Requester, q ≠ 14 → (oneWaits 14).access q = none := by decide
  refine ⟨rfl, fun r a e => ?_, by decide, by decide, by decide, fun k q b hk hq e => ?_⟩
  · rw [h] at e
    cases e
  have : q ≠ 14 := by
    intro c
    rw [c, show (oneWaits 14).mau.lastGranted = 14 from rfl] at hq
    simp only [Fin.isValue, Fin.coe_ofNat_eq_mod] at hq
    omega
  rw [h' q this] at e
  cases e

/-- The setup block of chapter 10 with 24 command slots. -/
def badSetup : Vector Byte 28 := setup10.set 24 24

theorem good_10 : GoodGeometry 8 1024 0x10000 16 := ⟨⟨4, rfl⟩, by decide, by decide, by decide⟩
theorem good_8 : GoodGeometry 8 1024 0x30000 8 := ⟨⟨3, rfl⟩, by decide, by decide, by decide⟩
theorem good_1024 : GoodGeometry 8 1024 0x30000 1024 := ⟨⟨10, rfl⟩, by decide, by decide, by decide⟩
theorem good_sample_16 : GoodGeometry 16 4096 0x20000 16 := ⟨⟨4, rfl⟩, by decide, by decide, by decide⟩
theorem good_sample_4096 : GoodGeometry 16 4096 0x20000 4096 := ⟨⟨12, rfl⟩, by decide, by decide, by decide⟩
theorem bad_base : ¬ GoodGeometry 16 4096 0x20020 16 := fun h => absurd h.2.2.2 (by decide)
theorem bad_slots : ¬ GoodGeometry 16 4096 0x20000 8 := fun h => absurd h.2.1 (by decide)
theorem bad_event : ¬ GoodGeometry 8 1024 0x30000 2048 := fun h => absurd h.2.2.1 (by decide)

theorem test_witness_SetupReadEndsTheLoad :
    let a : Access := { payload := .setupRead, address := 0x8000, epoch := 0, phase := .onLink }
    (Returns commandRequester a loading ∧ a.payload = .setupRead ∧ loading.control.heldStop = false) ∧
    (let s := loading.mapControl fun c => { c with heldStop := true }
     Returns commandRequester a s ∧ s.control.heldStop = true) ∧
    (let b := setupFields setup10.toList
     GoodGeometry 8 1024 b.commandBase b.commandSlots.toNat ∧ GoodGeometry 8 1024 b.replyBase b.replySlots.toNat ∧
       8 ∣ b.shadowAddr.toNat) ∧
    ¬ GoodGeometry 8 1024 (setupFields badSetup.toList).commandBase (setupFields badSetup.toList).commandSlots.toNat := by
  refine ⟨⟨⟨rfl, rfl, by decide⟩, rfl, rfl⟩, ⟨⟨rfl, rfl, by decide⟩, rfl⟩, ⟨?_, ?_, by decide⟩, ?_⟩
  · exact ⟨⟨4, rfl⟩, by decide, by decide, by decide⟩
  · exact ⟨⟨4, rfl⟩, by decide, by decide, by decide⟩
  · rintro ⟨⟨k, h⟩, -⟩
    have e : (setupFields badSetup.toList).commandSlots.toNat = 24 := by decide
    rw [e] at h
    have : k < 5 := by
      by_contra c
      have := Nat.pow_le_pow_right (n := 2) (by decide) (Nat.le_of_not_lt c)
      omega
    interval_cases k <;> omega

/-- The STOPPING clause of the end check: a held START and nothing else in flight. -/
theorem test_witness_CommandPathCompletions :
    (Returns replyRequester { payload := .replyWrite nopReply, address := 0x105E0, epoch := 0, phase := .onLink } replying ∧
      ∃ r, Payload.replyWrite nopReply = .replyWrite r) ∧
    Returns commandRequester { payload := .commandFetch, address := 0x10000, epoch := 0, phase := .onLink } up ∧
    (Returns shadowRequester
        { payload := .shadowWrite (List.replicate 9 0), address := 0x10800, epoch := 0, phase := .onLink } shadowing ∧
      (∃ l, Payload.shadowWrite (List.replicate 9 0) = .shadowWrite l) ∧ (List.replicate 9 0).length = 9) ∧
    (let s := (inState .stopping).mapControl fun c => { c with heldStart := true }
     s.control.engine = .stopping ∧ Quiet s ∧ s.control.heldStart = true) :=
  ⟨⟨⟨rfl, rfl, by decide⟩, _, rfl⟩, ⟨rfl, rfl, by decide⟩, ⟨⟨rfl, rfl, by decide⟩, ⟨_, rfl⟩, rfl⟩, rfl,
    ⟨by unfold inState; decide, rfl, rfl⟩, rfl⟩

/-- No command waits while the command engine is WAITING. -/
theorem noSampleWait {n : Fin 8} {s : State} (h : s.cmd.phase = .waiting) : ¬ sampleCommandWaits n s := by
  rintro (⟨_, e, -⟩ | ⟨_, _, _, e, -⟩) <;> rw [h] at e <;> cases e

theorem noEventWait {n : Fin 4} {s : State} (h : s.cmd.phase = .waiting) : ¬ eventCommandWaits n s := by
  rintro (⟨_, e, -⟩ | ⟨_, _, _, _, _, e, -⟩) <;> rw [h] at e <;> cases e

/-- The fetch of two records on sample ring 2. -/
def fetch2 : Access := { payload := .sampleFetch 2, address := 0x20000, epoch := 0, phase := .onLink }

theorem test_witness_SampleFetchCompletes :
    (Returns (sampleRequester 2) fetch2 (sampling watch12) ∧ ¬ sampleCommandWaits 2 (sampling watch12) ∧
      fetch2.payload = .sampleFetch [sampleBytes 100 840, sampleBytes 101 860].length ∧
      (sampling watch12).rings.sample[(2 : Fin 8)].state = .opened) ∧
    (let s := (sampling watch12).setSampleRing 2 faultedSample
     Returns (sampleRequester 2) fetch2 s ∧ ¬ sampleCommandWaits 2 s ∧ s.rings.sample[(2 : Fin 8)].state ≠ .opened) ∧
    ∃ k, fetch2.payload = .sampleFetch k :=
  ⟨⟨⟨by decide, rfl, by decide⟩, noSampleWait rfl, rfl, by decide⟩,
    ⟨⟨by decide, rfl, by decide⟩, noSampleWait rfl, by decide⟩, _, rfl⟩

theorem test_witness_EventWritesComplete :
    (let r := EventRecord.entry true entry12
     Returns (eventRequester 1) { payload := .eventWrite r, address := 0x30000, epoch := 0, phase := .onLink } (writing r) ∧
       ¬ eventCommandWaits 1 (writing r)) ∧
    (let r := EventRecord.overrun true 1 0
     Returns (eventRequester 1) { payload := .eventWrite r, address := 0x30000, epoch := 0, phase := .onLink } (writing r) ∧
       ¬ eventCommandWaits 1 (writing r)) :=
  ⟨⟨⟨by decide, rfl, by decide⟩, noEventWait rfl⟩, ⟨⟨by decide, rfl, by decide⟩, noEventWait rfl⟩⟩

theorem test_witness_WaitingSampleCommandsResume :
    (let s := waitingFor (hd 2) .closeSampleRing (sampling watch12)
     Returns (sampleRequester 2) fetch2 s ∧ rowCompletes (.sampleFetchCompletion 2 .accessError) fetch2.payload = true ∧
       rowCompletes (.sampleFetchCompletion 2 (.ok [sampleBytes 100 840, sampleBytes 101 860])) fetch2.payload = true ∧
       waitsWith (2 : Fin 8).val .closeSampleRing (recordOf (hd 2) .closeSampleRing) s) ∧
    (let q := Request.openSampleRing 0x20000 4096
     let s := waitingFor (hd 2) q ((sampling watch12).setSampleRing 2 faultedSample)
     Returns (sampleRequester 2) fetch2 s ∧ waitsWith (2 : Fin 8).val q (recordOf (hd 2) q) s ∧
       s.rings.sample[(2 : Fin 8)].state = .faulted) :=
  ⟨⟨⟨by decide, rfl, by decide⟩, rfl, rfl, rfl, rfl, rfl, by decide⟩,
    ⟨⟨by decide, rfl, by decide⟩, ⟨rfl, rfl, rfl, by decide⟩, by decide⟩⟩

theorem test_witness_WaitingEventCommandsResume :
    (let r := EventRecord.entry true entry12
     let s := waitingFor (hd 1) .closeEventRing (writing r)
     Returns (eventRequester 1) { payload := .eventWrite r, address := 0x30000, epoch := 0, phase := .onLink } s ∧
       waitsWith (1 : Fin 4).val .closeEventRing (recordOf (hd 1) .closeEventRing) s) ∧
    (let r := EventRecord.overrun true 1 0
     let q := Request.openEventRing 0x30000 8 7 7
     let s := waitingFor (hd 1) q ((writing r).setEventRing 1 faultedEvent)
     Returns (eventRequester 1) { payload := .eventWrite r, address := 0x30000, epoch := 0, phase := .onLink } s ∧
       waitsWith (1 : Fin 4).val q (recordOf (hd 1) q) s ∧ s.rings.event[(1 : Fin 4)].state = .faulted ∧
       (7 : Byte).toNat = (7 : Level).val ∧ (7 : Byte).toNat < 8) :=
  ⟨⟨⟨by decide, rfl, by decide⟩, rfl, rfl, rfl, by decide⟩,
    ⟨⟨by decide, rfl, by decide⟩, ⟨rfl, rfl, rfl, by decide⟩, by decide, rfl, by decide⟩⟩

theorem test_witness_DiscardedCompletionsReachNoBlock :
    (let x : Requester × Access := (1, { payload := .commandFetch, address := 0x10000, epoch := 0, phase := .onLink })
     (after .reset up).mau.stale = [] ++ x :: [] ∧ x.1 = 1 ∧ x.2.epoch = 0) ∧
    (let a : Access := { payload := .commandFetch, address := 0x10000, epoch := 0, phase := .onLink }
     let s := inFault up
     s.access commandRequester = some a ∧ a.phase = .onLink ∧ s.control.engine = .fault ∧ s.mau.stale = [] ∧
       rowRequester (.commandFetchCompletion .accessError) = some commandRequester ∧
       rowCompletes (.commandFetchCompletion .accessError) a.payload = true) := by decide

theorem test_witness_NopAndUnknownCommand :
    commandArrives up = true ∧ (0x0F : Byte) ∉ commandCodes ∧
      (commandRecordOfBytes (Vector.replicate 32 0)).code = 0 ∧
      (commandRecordOfBytes ((Vector.replicate 32 0).set 0 0xFF)).code ∉ commandCodes := by decide

/-! ### Host commands: index 8 past the last sample ring 7, and so on -/

theorem test_witness_OpenSampleRing :
    (commandArrives up = true ∧ 8 ≤ (hd 8).index.toNat ∧ (hd 7).index.toNat = (7 : Fin 8).val ∧
      up.rings.sample[(7 : Fin 8)].state = .closed) ∧
    (commandArrives (up.setSampleRing 7 (sampleRing 0 0)) = true ∧
      (up.setSampleRing 7 (sampleRing 0 0)).rings.sample[(7 : Fin 8)].state = .opened) ∧
    (¬ GoodGeometry 16 4096 0x20020 16 ∧ ¬ GoodGeometry 16 4096 0x20000 8) ∧
    (GoodGeometry 16 4096 0x20000 16 ∧ GoodGeometry 16 4096 0x20000 4096) ∧
    (let s := busyRings faultedSample (eventRing 0 0)
     commandArrives s = true ∧ s.rings.sample[(7 : Fin 8)].state = .faulted ∧ s.access (sampleRequester 7) ≠ none) ∧
    (let s := up.setSampleRing 7 faultedSample
     commandArrives s = true ∧ s.rings.sample[(7 : Fin 8)].state = .faulted ∧ s.access (sampleRequester 7) = none) :=
  ⟨by decide, by decide, ⟨bad_base, bad_slots⟩, ⟨good_sample_16, good_sample_4096⟩, by decide, by decide⟩

/-- No stream is bound in the state after reset. -/
theorem noStreamUses {P : Fin 64 → Prop} {s : State} (h : ∀ i : Fin 64, s.streams[i].state = .unbound) :
    ¬ ∃ i : Fin 64, s.streams[i].state ≠ .unbound ∧ P i := fun ⟨i, c, _⟩ => c (h i)

theorem test_witness_CloseSampleRing :
    (commandArrives up = true ∧ 8 ≤ (hd 8).index.toNat ∧ (hd 7).index.toNat = (7 : Fin 8).val ∧
      up.rings.sample[(7 : Fin 8)].state = .closed) ∧
    (let s := installed watch12 up
     commandArrives s = true ∧ s.rings.sample[(2 : Fin 8)].state ≠ .closed ∧
       ∃ i : Fin 64, s.streams[i].state ≠ .unbound ∧ s.streams[i].sampleRing = 2) ∧
    (let s := busyRings (sampleRing 3 1) (eventRing 0 0)
     commandArrives s = true ∧ s.rings.sample[(7 : Fin 8)].state ≠ .closed ∧ s.access (sampleRequester 7) ≠ none ∧
       ¬ ∃ i : Fin 64, s.streams[i].state ≠ .unbound ∧ s.streams[i].sampleRing = 7) ∧
    (let s := up.setSampleRing 7 faultedSample
     commandArrives s = true ∧ s.rings.sample[(7 : Fin 8)].state ≠ .closed ∧ s.access (sampleRequester 7) = none ∧
       ¬ ∃ i : Fin 64, s.streams[i].state ≠ .unbound ∧ s.streams[i].sampleRing = 7) :=
  ⟨by decide, ⟨by decide, by decide, 5, by decide⟩, ⟨by decide, by decide, by decide, noStreamUses (by decide)⟩,
    ⟨by decide, by decide, by decide, noStreamUses (by decide)⟩⟩

theorem test_witness_OpenEventRing :
    (commandArrives up = true ∧ 4 ≤ (hd 4).index.toNat ∧ (hd 3).index.toNat = (3 : Fin 4).val ∧
      up.rings.event[(3 : Fin 4)].state = .closed) ∧
    (commandArrives (up.setEventRing 3 (eventRing 0 0)) = true ∧
      (up.setEventRing 3 (eventRing 0 0)).rings.event[(3 : Fin 4)].state = .opened) ∧
    (¬ GoodGeometry 8 1024 0x30000 2048 ∧ ¬ (8 : Byte).toNat < 8) ∧
    (GoodGeometry 8 1024 0x30000 8 ∧ GoodGeometry 8 1024 0x30000 1024 ∧ (7 : Byte).toNat = (7 : Level).val ∧
      (0 : Byte).toNat = (0 : Level).val) ∧
    (let s := busyRings (sampleRing 0 0) faultedEvent
     commandArrives s = true ∧ s.rings.event[(3 : Fin 4)].state = .faulted ∧ s.access (eventRequester 3) ≠ none) ∧
    (let s := up.setEventRing 3 faultedEvent
     commandArrives s = true ∧ s.rings.event[(3 : Fin 4)].state = .faulted ∧ s.access (eventRequester 3) = none) :=
  ⟨by decide, by decide, ⟨bad_event, by decide⟩, ⟨good_8, good_1024, by decide, by decide⟩, by decide, by decide⟩

theorem test_witness_CloseEventRing :
    (commandArrives up = true ∧ 4 ≤ (hd 4).index.toNat ∧ (hd 3).index.toNat = (3 : Fin 4).val ∧
      up.rings.event[(3 : Fin 4)].state = .closed) ∧
    (let s := installed watch12 up
     commandArrives s = true ∧ s.rings.event[(1 : Fin 4)].state ≠ .closed ∧
       ∃ (id : Fin 128) (w : Watch), s.watches[id] = some w ∧ w.target = 1) ∧
    (let used := fun s : State => (∃ (id : Fin 128) (w : Watch), s.watches[id] = some w ∧ w.target = 3) ∨
        ∃ i : Fin 64, s.streams[i].state ≠ .unbound ∧ s.streams[i].eventRing = 3
     (let s := busyRings (sampleRing 0 0) (eventRing 3 1)
      commandArrives s = true ∧ s.rings.event[(3 : Fin 4)].state ≠ .closed ∧ s.access (eventRequester 3) ≠ none ∧ ¬ used s) ∧
     (let s := up.setEventRing 3 faultedEvent
      commandArrives s = true ∧ s.rings.event[(3 : Fin 4)].state ≠ .closed ∧ s.access (eventRequester 3) = none ∧ ¬ used s)) := by
  have unused : ∀ s : State, (∀ id : Fin 128, s.watches[id] = none) → (∀ i : Fin 64, s.streams[i].state = .unbound) →
      ¬ ((∃ (id : Fin 128) (w : Watch), s.watches[id] = some w ∧ w.target = 3) ∨
        ∃ i : Fin 64, s.streams[i].state ≠ .unbound ∧ s.streams[i].eventRing = 3) := by
    rintro s hw hs (⟨id, w, e, -⟩ | ⟨i, c, -⟩)
    · rw [hw] at e; cases e
    · exact c (hs i)
  exact ⟨by decide, ⟨by decide, by decide, 12, watch12, by decide⟩,
    ⟨by decide, by decide, by decide, unused _ (by decide) (by decide)⟩,
    ⟨by decide, by decide, by decide, unused _ (by decide) (by decide)⟩⟩

/-- Both values of the clear flag, and the first and the last index of each range. -/
theorem test_witness_QueriesReport :
    commandArrives (installed watch12 up) = true ∧ 14 ≤ (hd 14).index.toNat ∧ (hd 0).index.toNat = 0 ∧ (hd 1).index.toNat = 1 ∧
    ((hd 2).index.toNat = (0 : Fin 8).val + 2 ∧ (hd 9).index.toNat = (7 : Fin 8).val + 2) ∧
    ((hd 10).index.toNat = (0 : Fin 4).val + 10 ∧ (hd 13).index.toNat = (3 : Fin 4).val + 10) ∧
    (64 ≤ (hd 64).index.toNat ∧ (hd 63).index.toNat = (63 : Fin 64).val) ∧
    (128 ≤ (hd 128).index.toNat ∧ (hd 127).index.toNat = (127 : Fin 128).val) ∧
    ((installed watch12 up).watches[(127 : Fin 128)] = none ∧ (installed watch12 up).watches[(12 : Fin 128)] = some watch12) ∧
    ((hd 0).flags.getLsbD 0 = false ∧ { hd 0 with flags := 1 }.flags.getLsbD 0 = true) := by decide

/-- The parameters of the BIND_STREAM of chapter 10, with the last sample and event ring. -/
def bind7 : BindParams := { sampleRing := 7, eventRing := 3, level := 7, fallbackPresent := 1, timeout := 200, fallback := 900 }

theorem test_witness_BindAndUnbindStream :
    (commandArrives up = true ∧ 64 ≤ (hd 64).index.toNat ∧ (hd 63).index.toNat = (63 : Fin 64).val ∧
      up.streams[(63 : Fin 64)].state = .unbound) ∧
    (let good := fun p : BindParams =>
       p.sampleRing.toNat < 8 ∧ p.eventRing.toNat < 4 ∧ p.level.toNat < 8 ∧ p.fallbackPresent.toNat ≤ 1
     ¬ good { bind7 with sampleRing := 8 } ∧ ¬ good { bind7 with eventRing := 4 } ∧ ¬ good { bind7 with level := 8 } ∧
       ¬ good { bind7 with fallbackPresent := 2 }) ∧
    (bind7.fallbackPresent.toNat ≤ 1 ∧ bind7.sampleRing.toNat = (7 : Fin 8).val ∧ bind7.eventRing.toNat = (3 : Fin 4).val ∧
      bind7.level.toNat = (7 : Level).val ∧ up.rings.sample[(7 : Fin 8)].state = .closed) ∧
    (let s := busyRings (sampleRing 0 0) faultedEvent
     commandArrives s = true ∧ s.streams[(63 : Fin 64)].state = .unbound ∧ s.rings.sample[(7 : Fin 8)].state ≠ .closed ∧
       s.rings.event[(3 : Fin 4)].state ≠ .closed) ∧
    (let s := installed watch12 up
     commandArrives s = true ∧ s.streams[(5 : Fin 64)].state ≠ .unbound ∧ s.streams[(5 : Fin 64)].watchList ≠ []) ∧
    (let s := up.setStream 5 { stream5 with watchList := [] }
     commandArrives s = true ∧ s.streams[(5 : Fin 64)].state ≠ .unbound ∧ s.streams[(5 : Fin 64)].watchList = []) := by decide

theorem test_witness_ReviveStream :
    (commandArrives up = true ∧ 64 ≤ (hd 64).index.toNat ∧ (hd 63).index.toNat = (63 : Fin 64).val ∧
      up.streams[(63 : Fin 64)].state = .unbound) ∧
    (let s := installed watch12 up
     commandArrives s = true ∧ s.streams[(5 : Fin 64)].state = .bound) ∧
    (let s := (installed watch12 up).setStream 5 { stream5 with state := .silent, deadline := none }
     commandArrives s = true ∧ s.streams[(5 : Fin 64)].state = .silent ∧ s.streams[(5 : Fin 64)].held = false) ∧
    (let s := (installed watch12 up).setStream 5 { stream5 with state := .silent, held := true, lastValue := 860, deadline := none }
     commandArrives s = true ∧ s.streams[(5 : Fin 64)].state = .silent ∧ s.streams[(5 : Fin 64)].held = true) := by decide

/-- The statics of the watch of chapter 10. -/
theorem statics12 : NamesStatics createWatch12 5 .above 1 (some 0) := ⟨by decide, by decide, by decide, by decide⟩
theorem fields12 : GoodFields .above createWatch12 := ⟨by decide, by decide, by decide, by decide, trivial⟩

/-- A watch of every kind at the edge of R84 and R85, and fields just past it. -/
theorem goodEdges :
    GoodFields .outside { createWatch12 with na := 16, nc := 16, upper := 20, lower := -20, hysteresis := 20 } ∧
      GoodFields .below { createWatch12 with na := 1, nc := 1, upper := -40, lower := -40, hysteresis := 0x7FFFFFFF } ∧
      GoodFields .step { createWatch12 with upper := 20 } ∧
      ¬ GoodFields .outside { createWatch12 with upper := 19, lower := -20, hysteresis := 20 } ∧
      ¬ GoodFields .step { createWatch12 with upper := 19 } ∧ ¬ GoodFields .above { createWatch12 with na := 17 } ∧
      ¬ GoodFields .above { createWatch12 with hysteresis := 0x80000000 } ∧ ¬ GoodFields .above { createWatch12 with level := 8 } :=
  ⟨⟨by decide, by decide, by decide, by decide, by decide, by decide⟩, ⟨by decide, by decide, by decide, by decide, by decide⟩,
    ⟨by decide, by decide, by decide, by decide, by decide, by decide⟩, fun h => absurd h.2.2.2.2.2 (by decide),
    fun h => absurd h.2.2.2.2.2 (by decide), fun h => absurd h.2.1 (by decide), fun h => absurd h.2.2.2.1 (by decide),
    fun h => absurd h.1 (by decide)⟩

/-- Stream 5 with a list of eight watches, and the state around it. -/
def fullList : State := (installed watch12 up).setStream 5 { stream5 with watchList := [12, 13, 14, 15, 16, 17, 18, 19] }

theorem test_witness_CreateWatch :
    (commandArrives up = true ∧ 128 ≤ (hd 128).index.toNat ∧ (hd 127).index.toNat = (127 : Fin 128).val) ∧
    (let s := installed watch12 up
     commandArrives s = true ∧ s.watches[(12 : Fin 128)] ≠ none ∧ s.watches[(127 : Fin 128)] = none ∧
       s.streams[(5 : Fin 64)].state ≠ .unbound ∧ s.streams[(5 : Fin 64)].watchList.length < 8 ∧
       s.rings.event[(1 : Fin 4)].state ≠ .closed ∧ s.streams[(5 : Fin 64)].watchList = [12] ++ [] ∧
       (∀ y ∈ [(12 : Fin 128)], y < 127)) ∧
    (¬ ∃ i kind n line, NamesStatics { createWatch12 with stream := 64 } i kind n line ∧
      GoodFields kind { createWatch12 with stream := 64 }) ∧
    (NamesStatics createWatch12 5 .above 1 (some 0) ∧ GoodFields .above createWatch12 ∧
      createWatch12.level.toNat = (5 : Level).val) ∧
    up.streams[(5 : Fin 64)].state = .unbound ∧
    (commandArrives fullList = true ∧ fullList.streams[(5 : Fin 64)].state ≠ .unbound ∧
      8 ≤ fullList.streams[(5 : Fin 64)].watchList.length ∧ fullList.watches[(127 : Fin 128)] = none) ∧
    (let s := (installed watch12 up).setEventRing 1 EventRing.atReset
     commandArrives s = true ∧ s.streams[(5 : Fin 64)].state ≠ .unbound ∧ s.streams[(5 : Fin 64)].watchList.length < 8 ∧
       s.rings.event[(1 : Fin 4)].state = .closed) := by
  refine ⟨by decide, by decide, ?_, ⟨statics12, fields12, by decide⟩, by decide, by decide, by decide⟩
  rintro ⟨i, kind, n, line, ⟨h, -⟩, -⟩
  have : (64 : Nat) = i.val := h
  omega

theorem test_witness_DeleteArmDisarmWatch :
    (commandArrives up = true ∧ 128 ≤ (hd 128).index.toNat ∧ (hd 127).index.toNat = (127 : Fin 128).val ∧
      up.watches[(127 : Fin 128)] = none) ∧
    (let s := installed { watch12 with state := .disarmed } up
     commandArrives s = true ∧ (hd 12).index.toNat = (12 : Fin 128).val ∧
       s.watches[(12 : Fin 128)] = some { watch12 with state := .disarmed }) ∧
    (let s := installed asserted12 up
     commandArrives s = true ∧ s.watches[(12 : Fin 128)] = some asserted12 ∧ asserted12.state ≠ .disarmed) := by decide

theorem test_witness_ModifyWatch :
    (commandArrives up = true ∧ 128 ≤ (hd 128).index.toNat ∧ (hd 127).index.toNat = (127 : Fin 128).val ∧
      up.watches[(127 : Fin 128)] = none) ∧
    (¬ GoodFields watch12.kind { createWatch12 with na := 17 } ∧ GoodFields watch12.kind createWatch12 ∧
      createWatch12.level.toNat = (5 : Level).val) ∧
    (let s := installed watch12 up
     commandArrives s = true ∧ s.watches[(12 : Fin 128)] = some watch12 ∧ ∀ e ∈ s.pool, e.source ≠ .watch 12) ∧
    (let s := (installed watch12 up).setPool [entry12]
     commandArrives s = true ∧ s.watches[(12 : Fin 128)] = some watch12 ∧ s.pool = [] ++ entry12 :: [] ∧
       entry12.source = .watch 12) :=
  ⟨by decide, ⟨goodEdges.2.2.2.2.2.1, fields12, by decide⟩, by decide, by decide⟩

theorem test_witness_AckWatch :
    (commandArrives up = true ∧ 128 ≤ (hd 128).index.toNat ∧ (hd 127).index.toNat = (127 : Fin 128).val ∧
      up.watches[(127 : Fin 128)] = none) ∧
    (commandArrives (installed watch12 up) = true ∧ (installed watch12 up).watches[(12 : Fin 128)] = some watch12 ∧
      watch12.state = .clear) ∧
    ((installed asserted12 up).watches[(12 : Fin 128)] = some asserted12 ∧ asserted12.state = .asserted) ∧
    (let w := { asserted12 with state := .held, latch := true }
     commandArrives (installed w up) = true ∧ (installed w up).watches[(12 : Fin 128)] = some w ∧ w.state = .held ∧
       w.lastEvaluated = some 890) := by decide

theorem test_witness_ReleaseAndSetFloor :
    (commandArrives up = true ∧ 4 ≤ (hd 4).index.toNat ∧ 8 ≤ (8 : Byte).toNat ∧ (hd 3).index.toNat = (3 : Fin 4).val ∧
      up.rings.event[(3 : Fin 4)].state = .closed) ∧
    (let s := (up.setEventRing 3 (eventRing 0 0)).setDelivery 3 { baseFloor := 2, floorStack := [3, 5], lost := 0, owed := false }
     commandArrives s = true ∧ s.rings.event[(3 : Fin 4)].state ≠ .closed ∧ s.delivery[(3 : Fin 4)].floorStack = [3] ++ [5]) ∧
    (let s := writing (.entry true entry12)
     ∃ r, recordInFlight 1 s = some r ∧ r.holds = true) ∧
    (let s := up.setEventRing 3 (eventRing 0 0)
     commandArrives s = true ∧ (7 : Byte).toNat = (7 : Level).val ∧ s.rings.event[(3 : Fin 4)].state ≠ .closed ∧
       s.delivery[(3 : Fin 4)].floorStack = [] ∧ ¬ ∃ r, recordInFlight 3 s = some r ∧ r.holds = true) := by
  refine ⟨by decide, by decide, ⟨.entry true entry12, by decide, rfl⟩, by decide, by decide, by decide, by decide, ?_⟩
  rintro ⟨r, h, -⟩
  rw [show recordInFlight 3 (up.setEventRing 3 (eventRing 0 0)) = none by decide] at h
  cases h

theorem test_witness_AlarmCommands :
    (commandArrives up = true ∧ 4 ≤ (hd 4).index.toNat ∧ 2 ≤ (2 : Byte).toNat ∧ (hd 3).index.toNat = (3 : Fin 4).val ∧
      (0 : Byte) = AlarmMode.follow.code ∧ (1 : Byte) = AlarmMode.latch.code ∧ up.alarms[(3 : Fin 4)].mode = .follow) ∧
    (let s := up.setAlarm 3 { mode := .latch, asserted := true, count := 1 }
     commandArrives s = true ∧ s.alarms[(3 : Fin 4)].mode = .latch ∧ s.alarms[(3 : Fin 4)].count ≠ 0) ∧
    (let s := up.setAlarm 3 { mode := .latch, asserted := true, count := 0 }
     commandArrives s = true ∧ s.alarms[(3 : Fin 4)].mode = .latch ∧ s.alarms[(3 : Fin 4)].count = 0) := by decide

/-! ### Samples, watches and events -/

/-- A record of stream 5. -/
def rec5 (bad : Bool) (sequence : Seq) : SampleRecord := { stream := 5, bad := bad, sequence := sequence, value := 860 }

/-- The ends of each range of the sequence check, and records that no stream takes. -/
theorem test_witness_RoutingAndSequenceCheck :
    (∀ i : Fin 64, ({ rec5 false 0 with stream := 64 } : SampleRecord).stream.toNat ≠ i.val) ∧
    (up.streams[(5 : Fin 64)].state = .unbound ∧ (rec5 false 0).stream.toNat = (5 : Fin 64).val) ∧
    (let s := installed watch12 up
     s.streams[(5 : Fin 64)].state ≠ .unbound ∧ s.streams[(5 : Fin 64)].sampleRing = 2 ∧
       s.streams[(5 : Fin 64)].baseline = none) ∧
    (up.setStream 5 live5).streams[(5 : Fin 64)].baseline = some 110 ∧
    (let d := fun sequence : Seq => ((sequence.toNat : Int) - (110 : Seq).toNat) % 65536
     d 110 = 0 ∧ 32768 ≤ d 109 ∧ d 32878 = 32768 ∧ d 111 = 1 ∧ d 112 = 2 ∧ d 32877 = 32767) := by decide

theorem test_witness_AcceptedSamples :
    ((up.setStream 5 stream5).streams[(5 : Fin 64)].state = .bound ∧ (up.setStream 5 live5).streams[(5 : Fin 64)].state = .live) ∧
    (up.setStream 5 { stream5 with state := .silent }).streams[(5 : Fin 64)].state = .silent ∧
    ((rec5 false 0).bad = false ∧ (rec5 true 0).bad = true) := by decide

theorem test_witness_VerdictsOfTheKinds :
    watch12.kind = .above ∧ ({ watch12 with kind := .below } : Watch).kind = .below ∧
    (let w := { watch12 with kind := .outside, upper := 20, lower := -20, hysteresis := 20 }
     w.kind = .outside ∧ w.lower.toInt ≤ w.upper.toInt ∧ 2 * (w.hysteresis.toNat : Int) ≤ w.upper.toInt - w.lower.toInt) ∧
    ({ watch12 with kind := .step } : Watch).kind = .step := by decide

theorem test_witness_NormalModeTransitions :
    (watch12.state = .clear ∧ watch12.runCounter + 1 ≠ watch12.na) ∧
    (let w := { watch12 with state := .pendingAssert, runCounter := 2 }
     w.state = .pendingAssert ∧ w.runCounter + 1 = w.na) ∧
    (asserted12.state = .asserted ∧ asserted12.runCounter + 1 ≠ asserted12.nc) ∧
    (let w := { asserted12 with state := .pendingClear, runCounter := 1 }
     w.state = .pendingClear ∧ w.runCounter + 1 = w.nc) ∧
    ({ asserted12 with state := .held, latch := true } : Watch).state = .held := by decide

theorem test_witness_SubstituteModeTransitions :
    let law := fun w : Watch => w.state ≠ .pendingAssert → w.state ≠ .pendingClear → w.runCounter = 0
    (law watch12 ∧ watch12.state = .clear) ∧ (law asserted12 ∧ asserted12.state = .asserted ∧ asserted12.state ≠ .disarmed) ∧
    (let w := { watch12 with state := .pendingAssert, runCounter := 2 }
     law w ∧ w.state = .pendingAssert) ∧
    (let w := { asserted12 with state := .pendingClear, runCounter := 1 }
     law w ∧ w.state = .pendingClear) ∧
    (let w := { asserted12 with state := .held, latch := true }
     law w ∧ w.state = .held) := by decide

/-- A value of stream 5 in each mode. -/
def request5 (substitute : Bool) (value : Word) : EvalRequest :=
  { substitute := substitute, stream := 5, value := value, sequence := 107, time := 5100000, previous := none }

/-- A FOLLOW line at the counts 0, 1 and 2, and a LATCH line deasserted at 0 and asserted at 1. -/
theorem test_witness_JudgementOfAWatch_pins :
    (let at_ := fun (m : AlarmMode) (b : Bool) (k : Nat) => (up.setAlarm 3 { mode := m, asserted := b, count := k }).alarms[(3 : Fin 4)]
     (∀ k ∈ [0, 1, 2], (at_ .follow (decide (0 < k)) k).mode = .follow ∧
       ((at_ .follow (decide (0 < k)) k).asserted = true ↔ 0 < (at_ .follow (decide (0 < k)) k).count)) ∧
     ∀ k ∈ [0, 1], (at_ .latch (decide (0 < k)) k).mode = .latch ∧
       (0 < (at_ .latch (decide (0 < k)) k).count → (at_ .latch (decide (0 < k)) k).asserted = true)) := by decide

/-- A free entry, a DISARMED watch, a STEP watch without a verdict, and the three crossings. -/
theorem test_witness_JudgementOfAWatch :
    up.watches[(12 : Fin 128)] = none ∧
    (let w := { watch12 with state := .disarmed }
     (installed w up).watches[(12 : Fin 128)] = some w ∧ w.state = .disarmed) ∧
    (let w := { watch12 with kind := .step }
     (installed w up).watches[(12 : Fin 128)] = some w ∧ w.state ≠ .disarmed ∧ w.verdict 860 none = none) ∧
    ((installed watch12 up).watches[(12 : Fin 128)] = some watch12 ∧ watch12.state ≠ .disarmed ∧
      watch12.verdict (request5 true 860).value.toInt none = some .fire ∧ (watch12.normalVerdict .fire).2 = .stays ∧
      (watch12.substituteVerdict .fire).2 = .asserts) ∧
    (let w := { asserted12 with state := .pendingClear, runCounter := 1 }
     (installed w up).watches[(12 : Fin 128)] = some w ∧ w.verdict (request5 false 815).value.toInt none = some .clear ∧
       (w.normalVerdict .clear).2 = .clears) := by decide

/-- The WATCH_CLEAR of watch 12 as an event. -/
def clear12 : Event :=
  { source := .watch 12, kind := .watchClear, target := 1, level := 5, hold := true, stream := 5, value := 815, sequence := 110,
    time := 5200000, fallback := false }

/-- A pool of 64 entries of the streams. -/
def fullPool : List PendingEntry :=
  (List.finRange 64).map fun i => { entry12 with source := .stream i, hold := false, stream := i, firstKind := .streamSilent }

theorem test_witness_HandOverFoldsAllocatesOrLoses :
    ((up.setPool [entry12]).pool = [] ++ entry12 :: [] ∧ entry12.source = clear12.source) ∧
    ((∀ x ∈ up.pool, x.source ≠ clear12.source) ∧ up.pool.length < 64) ∧
    ((∀ x ∈ (up.setPool fullPool).pool, x.source ≠ clear12.source) ∧ 64 ≤ (up.setPool fullPool).pool.length) := by decide

theorem test_witness_WriterTakesTheHighestThenOldest :
    ({ entry12 with foldCount := 255 }.foldCount ≤ 255 ∧ 65535 ≤ 65535) ∧
    ¬ WriterCan 1 up ∧
    (let s := (installed watch12 up).setDelivery 1 { baseFloor := 2, floorStack := [], lost := 1, owed := true }
     WriterCan 1 s ∧ s.delivery[(1 : Fin 4)].owed = true) ∧
    (let s := (installed watch12 up).setPool [entry12]
     WriterCan 1 s ∧ s.delivery[(1 : Fin 4)].owed = false ∧ IsChoice 1 s entry12 ∧
       ∃ e ∈ pendingOrder 1 s.pool, s.delivery[(1 : Fin 4)].currentFloor < e.level) ∧
    (let s := ((installed watch12 up).setPool [entry12]).setDelivery 1
       { baseFloor := 2, floorStack := [5], lost := 0, owed := false }
     WriterCan 1 s ∧ s.delivery[(1 : Fin 4)].owed = false ∧
       ∀ e ∈ pendingOrder 1 s.pool, e.level ≤ s.delivery[(1 : Fin 4)].currentFloor) := by
  refine ⟨by decide, fun h => absurd h.1 (by decide), ⟨⟨by decide, by decide, by decide, by decide⟩, by decide⟩,
    ⟨⟨by decide, by decide, by decide, by decide⟩, by decide, ⟨by decide, [], [], by decide, by simp, by simp⟩, entry12, by decide,
      by decide⟩, ⟨⟨by decide, by decide, by decide, by decide⟩, by decide, by decide⟩⟩

/-! ### The laws: a part in RUN with open rings, a bound stream, an asserted watch on line 0 and its event pending below the floor -/

/-- The part of 10 section 10.2 with a NOP coming on the link and queued. -/
def rich : State :=
  ((((installed asserted12 up).setAlarm 0 { mode := .follow, asserted := true, count := 1 }).setPool [entry12]).setDelivery 1
    { baseFloor := 2, floorStack := [5], lost := 0, owed := false }).withPending [.nop (hd 0)]

theorem rich_steps : ∃ t, step rich = .next t := ⟨_, rfl⟩

theorem rich_watches {id : Fin 128} {w : Watch} (h : rich.watches[id] = some w) : id = 12 ∧ w = asserted12 := by
  have free : ∀ id : Fin 128, id ≠ 12 → rich.watches[id] = none := by decide
  by_cases e : id = 12
  · subst e
    rw [show rich.watches[(12 : Fin 128)] = some asserted12 by decide] at h
    exact ⟨rfl, (Option.some.inj h).symm⟩
  · rw [free id e] at h
    cases h

theorem rich_access {r : Requester} {a : Access} (h : rich.access r = some a) :
    r = 1 ∧ a = { payload := .commandFetch, address := 0x10000, epoch := 0, phase := .onLink } := by
  have free : ∀ r : Requester, r ≠ 1 → rich.access r = none := by decide
  by_cases e : r = 1
  · subst e
    rw [show rich.access 1 = linked .commandFetch 0x10000 by decide] at h
    exact ⟨rfl, (Option.some.inj h).symm⟩
  · rw [free r e] at h
    cases h

theorem rich_noSetup : ¬ setupReadInFlight rich := by
  rintro ⟨a, h, e⟩
  rw [(rich_access h).2] at e
  cases e

theorem test_witness_StepsKeepTheAlarmLaw : (AlarmLaw rich ∧ PinsLaw rich) ∧ ∃ t, step rich = .next t := by
  refine ⟨⟨by unfold AlarmLaw; decide, fun p => ?_⟩, rich_steps⟩
  cases p with
  | attn => decide
  | alm a => revert a; decide

theorem test_witness_StepsKeepTheContributionCounts : ContributionLaw rich ∧ ∃ t, step rich = .next t :=
  ⟨by unfold ContributionLaw; decide, rich_steps⟩

theorem test_witness_StepsKeepTheWatchLaw : WatchesLaw rich ∧ ∃ t, step rich = .next t := by
  refine ⟨fun id w h => ?_, rich_steps⟩
  rw [(rich_watches h).2]
  constructor <;> decide

theorem test_witness_StepsKeepThePoolLaw : PoolLaw rich ∧ ∃ t, step rich = .next t := by
  refine ⟨?_, rich_steps⟩
  constructor <;> decide

theorem test_witness_StepsKeepTheFloorLaw : FloorsLaw rich ∧ ∃ t, step rich = .next t := by
  have none : ∀ n : Fin 4, recordInFlight n rich = none := by decide
  refine ⟨fun n => ?_, rich_steps⟩
  constructor
  · revert n; decide
  · revert n; decide
  · intro r h; rw [none] at h; cases h
  · intro lap k time h; rw [none] at h; cases h
  · revert n; decide
  · revert n; decide
  · revert n; decide

theorem test_witness_StepsKeepTheFaultLaw : FaultLaw rich ∧ ∃ t, step rich = .next t := by
  refine ⟨?_, rich_steps⟩
  constructor
  case setupRead => exact fun h => absurd h rich_noSetup
  all_goals decide

theorem test_witness_StepsKeepTheCommandPathLaw : (CommandPathLaw rich ∧ QuietLaw rich) ∧ ∃ t, step rich = .next t :=
  ⟨⟨⟨rfl, rfl, by decide, ⟨_, rfl, rfl⟩, by decide, by decide⟩, ⟨nofun, nofun, nofun⟩⟩, rich_steps⟩

theorem test_witness_StepsKeepTheRingLaw : RingsLaw rich ∧ ∃ t, step rich = .next t := by
  refine ⟨?_, rich_steps⟩
  constructor
  case sampleWaiting => rintro n base slots ⟨_, h, -⟩; cases h
  case eventWaiting => rintro n base slots notify floor ⟨_, h, -⟩; cases h
  all_goals
    try unfold DescriptorLaw
    decide

set_option maxRecDepth 10000 in
theorem test_witness_StepsKeepTheWatchLists : WatchListLaw rich ∧ ∃ t, step rich = .next t := by
  refine ⟨?_, rich_steps⟩
  constructor
  case listed => intro id w h; obtain ⟨rfl, rfl⟩ := rich_watches h; decide
  case inUse =>
    intro i id h
    have only : ∀ i : Fin 64, ∀ id ∈ rich.streams[i].watchList, i = 5 ∧ id = 12 := by decide
    obtain ⟨rfl, rfl⟩ := only i id h
    exact ⟨asserted12, by decide, rfl⟩
  all_goals decide

theorem test_witness_StepsKeepUsedRingsOpen : RingUsersLaw rich ∧ ∃ t, step rich = .next t := by
  refine ⟨?_, rich_steps⟩
  constructor
  case sampleClosing => rintro n ⟨_, h, -⟩; cases h
  case eventClosing => rintro n ⟨_, h, -⟩; cases h
  all_goals decide

theorem test_witness_StepsKeepTheStreamLaw : StreamsLaw rich ∧ ∃ t, step rich = .next t := by
  refine ⟨fun i => ?_, rich_steps⟩
  constructor <;> revert i <;> decide

theorem test_witness_StepsKeepTheEpochLaw : EpochLaw rich ∧ ∃ t, step rich = .next t := by
  refine ⟨?_, rich_steps⟩
  constructor
  · intro r a h; obtain ⟨rfl, rfl⟩ := rich_access h; rfl
  · intro r a h; obtain ⟨rfl, rfl⟩ := rich_access h; rfl
  · nofun

end Sys2Proof.Tests
end

section
/-!
PROOFS. The query commands (O32): how the model's ways of building a result word read as packed fields (R203), what each owner answers
on each branch of its checks (R30, R74, R97), and from these the reports.
-/

namespace Sys2Proof.Machine

/-! ## Result words as packed fields (R203) -/

/-- The number of two joined bit vectors. -/
theorem toNat_append_eq_add {m n : Nat} (hi : BitVec m) (lo : BitVec n) : (hi ++ lo).toNat = lo.toNat + hi.toNat * 2 ^ n := by
  rw [BitVec.toNat_append, ← Nat.shiftLeft_add_eq_or_of_lt lo.isLt, Nat.shiftLeft_eq, Nat.add_comm]

/-- A word is one field of 32 bits. -/
theorem packed_word (x : Word) : packed [(0, 32, x.toNat)] = x := by
  simp [packed_cons]

/-- A field of joined bit vectors splits into their two fields. -/
theorem packed_append (low : Nat) {m n : Nat} (hi : BitVec m) (lo : BitVec n) (rest : List (Nat × Nat × Nat)) :
    packed ((low, m + n, (hi ++ lo).toNat) :: rest) = packed ((low, n, lo.toNat) :: (low + n, m, hi.toNat) :: rest) := by
  simp only [packed, List.map_cons, List.sum_cons, Nat.mod_eq_of_lt hi.isLt, Nat.mod_eq_of_lt lo.isLt,
    Nat.mod_eq_of_lt (hi ++ lo).isLt]
  rw [toNat_append_eq_add]
  congr 1
  ring

/-- Two counts are two fields of 16 bits. -/
theorem packCounts_eq (low high : Nat) : packCounts low high = packed [(0, 16, low), (16, 16, high)] := by
  rw [← packed_word (packCounts low high)]
  refine (packed_append 0 (BitVec.ofNat 16 high) (BitVec.ofNat 16 low) []).trans ?_
  simp [packed]

/-- Four bytes are four fields of 8 bits. -/
theorem packBytes_eq (b0 b1 b2 b3 : Byte) :
    packBytes b0 b1 b2 b3 = packed [(0, 8, b0.toNat), (8, 8, b1.toNat), (16, 8, b2.toNat), (24, 8, b3.toNat)] := by
  rw [← packed_word (packBytes b0 b1 b2 b3)]
  refine (packed_append 0 (b3 ++ b2 ++ b1) b0 []).trans ?_
  rw [packed_cons, packed_append, packed_cons, packed_append]
  simp only [packed_cons]

/-- A byte that holds one flag gives the word what the flag's bit alone gives. -/
theorem setWidth_flag (b : Bool) : (if b then 1#8 else 0#8).setWidth 32 = (BitVec.ofNat 1 b.toNat).setWidth 32 := by
  cases b <;> rfl

/-- A byte that holds two flags is two fields of one bit. -/
theorem packed_flags (low : Nat) (a b : Bool) (rest : List (Nat × Nat × Nat)) :
    packed ((low, 8, (BitVec.ofNat 8 (a.toNat + 2 * b.toNat)).toNat) :: rest) =
      packed ((low, 1, a.toNat) :: (low + 1, 1, b.toNat) :: rest) := by
  have ha := a.toNat_lt
  have hb := b.toNat_lt
  have both : (BitVec.ofNat 8 (a.toNat + 2 * b.toNat)).toNat = a.toNat + 2 * b.toNat := by rw [BitVec.toNat_ofNat]; omega
  simp only [packed, List.map_cons, List.sum_cons, both, Nat.mod_eq_of_lt (show a.toNat + 2 * b.toNat < 2 ^ 8 by omega),
    Nat.mod_eq_of_lt (show a.toNat < 2 ^ 1 from ha), Nat.mod_eq_of_lt (show b.toNat < 2 ^ 1 from hb)]
  congr 1
  ring

/-! ## The words of each query -/

/-- What QUERY_RING reports of a command or reply ring (R30). -/
theorem Descriptor.queryWords_eq (d : Descriptor) :
    d.queryWords =
      { w0 := packed [(0, 8, d.state.code.toNat)]
        w1 := packed [(0, 16, d.producer), (16, 16, d.consumer)]
        w3 := packed [(0, 16, d.slots)] } := by
  simp [Descriptor.queryWords, packBytes_eq, packCounts_eq, packed_cons]

/-- What QUERY_RING reports of a sample ring (R30). -/
theorem SampleRing.queryWords_eq (r : SampleRing) :
    r.queryWords =
      { w0 := packed [(0, 8, r.state.code.toNat), (8, 8, r.cause.code.toNat)]
        w1 := packed [(0, 16, r.producer), (16, 16, r.consumer)]
        w2 := packed [(0, 16, r.unrouted)]
        w3 := packed [(0, 16, r.slots)] } := by
  simp [SampleRing.queryWords, packBytes_eq, packCounts_eq, packed_cons]

/-- What QUERY_RING reports of an event ring and its delivery state (R30, R139). -/
theorem eventQueryWords_eq (n : Fin 4) (s : State) :
    eventQueryWords n s =
      { w0 := packed [(0, 8, s.rings.event[n].state.code.toNat), (8, 8, s.rings.event[n].cause.code.toNat)]
        w1 := packed [(0, 16, s.rings.event[n].producer), (16, 16, s.rings.event[n].consumer)]
        w2 := packed
          [(0, 8, s.delivery[n].currentFloor.val), (8, 8, s.delivery[n].floorStack.length),
           (16, 8, (pendingOrder n s.pool).length), (24, 1, s.delivery[n].owed.toNat)]
        w3 := packed [(0, 16, s.delivery[n].lost)] } := by
  simp [eventQueryWords, packBytes_eq, packCounts_eq, packed_cons, setWidth_flag, -BitVec.toNat_ofNat]

/-- What QUERY_STREAM reports (R74). -/
theorem Stream.queryWords_eq (x : Stream) :
    x.queryWords =
      { w0 := packed
          [(0, 8, x.state.code.toNat), (8, 1, x.baseline.isSome.toNat), (9, 1, x.held.toNat), (16, 16, (x.baseline.getD 0).toNat)]
        w1 := x.lastValue
        w2 := packed [(0, 16, x.missing), (16, 16, x.stale)]
        w3 := packed [(0, 16, x.bad), (16, 16, x.heldCount)] } := by
  have word0 : x.queryWords.w0 = packed
      [(0, 8, x.state.code.toNat), (8, 1, x.baseline.isSome.toNat), (9, 1, x.held.toNat), (16, 16, (x.baseline.getD 0).toNat)] := by
    rw [← packed_word x.queryWords.w0]
    refine (packed_append 0 x.baselineOrZero
      (BitVec.ofNat 8 (x.baseline.isSome.toNat + 2 * x.held.toNat) ++ x.state.code : BitVec 16) []).trans ?_
    refine (packed_append 0 _ x.state.code _).trans ?_
    rw [packed_cons, packed_flags, ← packed_cons]
    rfl
  rw [← word0, ← packCounts_eq, ← packCounts_eq]
  rfl

/-- Word 0 of QUERY_WATCH (R97). -/
theorem Watch.queryWord0_eq (w : Watch) (pending : Bool) :
    w.queryWord0 pending = packed
      [(0, 8, w.state.code.toNat), (8, 4, w.runCounter), (12, 1, w.acknowledged.toNat), (13, 1, pending.toNat),
       (14, 1, w.lastEvaluated.isSome.toNat), (16, 3, w.level.val)] := by
  rw [← packed_word (w.queryWord0 pending)]
  refine (packed_append 0 (BitVec.ofNat 13 0 ++ BitVec.ofNat 3 w.level.val)
    (BitVec.ofNat 1 0 ++ BitVec.ofBool w.lastEvaluated.isSome ++ BitVec.ofBool pending ++ BitVec.ofBool w.acknowledged
      ++ BitVec.ofNat 4 w.runCounter ++ w.state.code) []).trans ?_
  rw [packed_append, packed_cons, packed_append, packed_cons, packed_append, packed_cons, packed_append, packed_cons,
    packed_append, packed_cons, packed_cons, packed_append]
  simp [packed_cons, -BitVec.toNat_ofNat]

/-- What QUERY_WATCH reports (R97). -/
theorem Watch.queryWords_eq (w : Watch) (pending : Bool) :
    w.queryWords pending =
      { w0 := packed
          [(0, 8, w.state.code.toNat), (8, 4, w.runCounter), (12, 1, w.acknowledged.toNat), (13, 1, pending.toNat),
           (14, 1, w.lastEvaluated.isSome.toNat), (16, 3, w.level.val)]
        w1 := w.lastEvaluated.getD 0
        w2 := packed [(0, 16, w.assertCount)]
        w3 := packed
          [(0, 8, w.stream.val), (8, 8, w.kind.code.toNat), (16, 8, w.target.val), (24, 8, (alarmLineByte w.alarmLine).toNat)] } := by
  simp [Watch.queryWords, Watch.queryWord0_eq, packBytes_eq, packCounts_eq, packed_cons, -BitVec.toNat_ofNat]

/-- The pending bit of a watch is asked of the whole pool. -/
theorem hasPending_eq_any (x : Source) (s : State) : hasPending x s = s.pool.any fun e => e.source == x :=
  List.isSome_find?

/-! ## The owners' answers, branch by branch (R30, R74, R97) -/

/-- Selectors 14 and above name no ring. -/
theorem ringOfSelector_eq_none {k : Nat} (h : 14 ≤ k) : ringOfSelector k = none := by
  unfold ringOfSelector
  rw [if_neg (by omega), if_neg (by omega), dif_neg (by omega), dif_neg (by omega)]

/-- Selectors 2 to 9 name the sample rings. -/
theorem ringOfSelector_sample (n : Fin 8) : ringOfSelector (n.val + 2) = some (.sample n) := by
  revert n; decide

/-- Selectors 10 to 13 name the event rings. -/
theorem ringOfSelector_event (n : Fin 4) : ringOfSelector (n.val + 10) = some (.event n) := by
  revert n; decide

section
variable {index : BitVec 16} {flags : Byte} {s : State}

theorem queryRing_outOfRange (h : 14 ≤ index.toNat) : queryRing index flags s = refuse .badArgument s := by
  rw [queryRing, ringOfSelector_eq_none h]

theorem queryRing_command (h : index.toNat = 0) : queryRing index flags s = .done .ok s.rings.command.queryWords s := by
  rw [queryRing, h]; rfl

theorem queryRing_reply (h : index.toNat = 1) : queryRing index flags s = .done .ok s.rings.reply.queryWords s := by
  rw [queryRing, h]; rfl

theorem queryRing_sample {n : Fin 8} (h : index.toNat = n.val + 2) : queryRing index flags s = querySampleRing n flags s := by
  rw [queryRing, h, ringOfSelector_sample]

theorem queryRing_event {n : Fin 4} (h : index.toNat = n.val + 10) :
    queryRing index flags s = .done .ok (eventQueryWords n s) s := by
  rw [queryRing, h, ringOfSelector_event]

theorem queryStream_outOfRange (h : 64 ≤ index.toNat) : queryStream index flags s = refuse .badArgument s := by
  rw [queryStream, fieldBelow_eq_none.2 h]

theorem queryStream_stream {i : Fin 64} (h : index.toNat = i.val) :
    queryStream index flags s =
      .done .ok s.streams[i].queryWords (if clearFlag flags then s.setStream i s.streams[i].clearCounters else s) := by
  rw [queryStream, fieldBelow_eq_some.2 h]

variable {act : Fin 128 → Watch → Answer}

theorem onWatch_outOfRange (h : 128 ≤ index.toNat) : onWatch index s act = refuse .badArgument s := by
  rw [onWatch, fieldBelow_eq_none.2 h]

theorem onWatch_free {id : Fin 128} (h : index.toNat = id.val) (free : s.watches[id] = none) :
    onWatch index s act = refuse .notFound s := by
  rw [onWatch, fieldBelow_eq_some.2 h]
  dsimp only
  rw [free]

theorem onWatch_inUse {id : Fin 128} {w : Watch} (h : index.toNat = id.val) (used : s.watches[id] = some w) :
    onWatch index s act = act id w := by
  rw [onWatch, fieldBelow_eq_some.2 h]
  dsimp only
  rw [used]

theorem queryWatch_inUse {id : Fin 128} {w : Watch} (h : index.toNat = id.val) (used : s.watches[id] = some w) :
    queryWatch index s = .done .ok (w.queryWords (hasPending (.watch id) s)) s :=
  onWatch_inUse h used

end

/-- The alarm line byte of a line is its number. -/
theorem alarmLineByte_some (a : Fin 4) : (alarmLineByte (some a)).toNat = a.val := by
  revert a; decide

/-- Settles O32: each branch of a query is answered as its owner's rule says, with the words read as packed fields. -/
theorem queriesReport : Obligations.QueriesReport := by
  refine ⟨rfl, rfl, rfl, rfl, rfl, rfl, rfl, alarmLineByte_some, fun h s arrives => ⟨?ring, ?stream, ?watch⟩⟩
  case ring =>
    refine ⟨fun out => ?_, fun command => ?_, fun reply => ?_, fun n sample => ?_, fun n event => ?_⟩
    · exact refuses_of_refuse arrives rfl (queryRing_outOfRange out)
    · exact answers_of_done arrives rfl (by rw [queryRing_command command, Descriptor.queryWords_eq]; rfl)
    · exact answers_of_done arrives rfl (by rw [queryRing_reply reply, Descriptor.queryWords_eq]; rfl)
    · exact answers_of_done arrives rfl (by rw [queryRing_sample sample, querySampleRing, SampleRing.queryWords_eq]; rfl)
    · exact answers_of_done arrives rfl (by rw [queryRing_event event, eventQueryWords_eq]; rfl)
  case stream =>
    refine ⟨fun out => ?_, fun i stream => ?_⟩
    · exact refuses_of_refuse arrives rfl (queryStream_outOfRange out)
    · exact answers_of_done arrives rfl (by rw [queryStream_stream stream, Stream.queryWords_eq]; rfl)
  case watch =>
    refine ⟨fun out => ?_, fun id watch => ⟨fun free => ?_, fun w used => ?_⟩⟩
    · exact refuses_of_refuse arrives rfl (onWatch_outOfRange out)
    · exact refuses_of_refuse arrives rfl (onWatch_free watch free)
    · exact answers_of_done arrives rfl
        (by rw [queryWatch_inUse (s := taken _ s) watch used, Watch.queryWords_eq, hasPending_eq_any]; rfl)

end Sys2Proof.Machine
end

section
/-!
PROOFS. NOP and the codes that name no command (O27): what a command record asks for by its code alone (R37), and what its owner then
answers (R41).
-/

namespace Sys2Proof.Machine

/-! ## What a code asks for (R37) -/

/-- Code 0x00 asks for NOP, whatever the parameter bytes are. -/
@[simp] theorem decodeRequest_nop (params : List Byte) : decodeRequest 0x00 params = .nop := rfl

/-- A code that names no command asks for nothing but the answer UNKNOWN_COMMAND, whatever the parameter bytes are. -/
theorem decodeRequest_unknown {code : Byte} (h : code ∉ commandCodes) (params : List Byte) :
    decodeRequest code params = .unknown code := by
  simp only [commandCodes, List.mem_cons, List.not_mem_nil, or_false, not_or] at h
  simp only [decodeRequest, h, if_false]

/-! ## The owner's answer (R37, R41) -/

/-- A record of code 0x00 is answered OK and changes nothing. -/
theorem ownerOf_nop {rec : CommandRecord} (h : rec.code = 0x00) (s : State) : ownerOf rec s = .done .ok {} s := by
  rw [ownerOf, CommandRecord.request, h, decodeRequest_nop]
  rfl

/-- A record whose code names no command is refused. -/
theorem ownerOf_unknown {rec : CommandRecord} (h : rec.code ∉ commandCodes) (s : State) :
    ownerOf rec s = refuse .unknownCommand s := by
  rw [ownerOf, CommandRecord.request, decodeRequest_unknown h]
  rfl

/-- A command fetch that brings 32 bytes is the row of the record that the bytes spell (R36). -/
theorem exec_commandFetchCompletion_ok (bytes : Vector Byte 32) (s : State) :
    exec (.commandFetchCompletion (.ok bytes)) s =
      onCommandFetch (commandRecordOfBytes bytes) (ownerOf (commandRecordOfBytes bytes)) s := rfl

/-- Settles O27: by the code of the record, NOP's owner answers OK from every state, and an unknown code is refused; the rows and the
fetch of any 32 bytes are answered alike. -/
theorem nopAndUnknownCommand : Obligations.NopAndUnknownCommand := by
  refine fun s arrives =>
    ⟨fun h => ?nopRow, fun code h unknown => ?unknownRow, fun bytes => ⟨fun code => ?nopFetch, fun unknown => ?unknownFetch⟩⟩
  case nopRow => exact answers_of_done arrives rfl rfl
  case unknownRow => exact refuses_of_refuse arrives rfl (ownerOf_unknown (rec := recordOf h (.unknown code)) unknown _)
  case nopFetch => exact answers_of_done arrives (exec_commandFetchCompletion_ok bytes s) (ownerOf_nop code _)
  case unknownFetch => exact refuses_of_refuse arrives (exec_commandFetchCompletion_ok bytes s) (ownerOf_unknown unknown _)

end Sys2Proof.Machine
end

section
/-!
PROOFS. What becomes of a sample record (O41, O42): how an entry of the stream table reads after an update, the sequence check as a
distance in integers (R57), where a record routes to (R56), and what an accepted sample leaves (R59 to R61).
-/

namespace Sys2Proof.Machine

/-! ## Entries of the stream table -/

/-- The later of two replacements of one entry stands. -/
@[simp] theorem State.setStream_setStream (i : Fin 64) (x y : Stream) (s : State) :
    (s.setStream i x).setStream i y = s.setStream i y := by
  simp [State.setStream]

/-- Run breaks and the stream table do not meet. -/
theorem runsBroken_setStream (l : List (Fin 128)) (i : Fin 64) (x : Stream) (s : State) :
    runsBroken l (s.setStream i x) = (runsBroken l s).setStream i x := rfl

/-- The deadline field after a deadline is set (R63). -/
theorem Stream.setDeadline_eq (t : Time) (x : Stream) :
    x.setDeadline t =
      { x with
        deadline := if x.timeout = 0 then x.deadline else some (t + BitVec.ofNat 48 (x.timeout.toNat * 1000)) } := by
  unfold Stream.setDeadline
  split
  · rfl
  · rfl

theorem Stream.isBound_iff {x : Stream} : x.isBound = true ↔ x.state ≠ .unbound := by
  simp [Stream.isBound]

theorem Stream.isBound_eq_false_iff {x : Stream} : x.isBound = false ↔ x.state = .unbound := by
  simp [Stream.isBound]

theorem Stream.inService_iff {x : Stream} : x.inService = true ↔ x.state = .bound ∨ x.state = .live := by
  simp [Stream.inService]

/-- A 16-bit count stops at 65535. -/
theorem sat16_eq_min (n k : Nat) : sat16 n k = min 65535 (n + k) := rfl

/-! ## The sequence check (R57) -/

/-- The distance of R57 in exact integers is the difference of the two sequences as words. -/
theorem seqDistance_eq (a b : Seq) : ((a.toNat : Int) - b.toNat) % 65536 = ((a - b).toNat : Int) := by
  have ha := a.isLt
  have hb := b.isLt
  rw [BitVec.toNat_sub]
  omega

section
variable {b sequence : Seq}

theorem sequenceCheck_stale (h : (sequence - b).toNat = 0 ∨ 32768 ≤ (sequence - b).toNat) :
    sequenceCheck (some b) sequence = .stale :=
  if_pos h

theorem sequenceCheck_inOrder (h : (sequence - b).toNat = 1) : sequenceCheck (some b) sequence = .inOrder := by
  simp [sequenceCheck, h]

theorem sequenceCheck_gap (low : 2 ≤ (sequence - b).toNat) (high : (sequence - b).toNat ≤ 32767) :
    sequenceCheck (some b) sequence = .gap ((sequence - b).toNat - 1) := by
  unfold sequenceCheck
  dsimp only
  rw [if_neg (by omega), if_neg (by omega)]

end

/-! ## A routed record (R57) -/

section
variable {i : Fin 64} {r : SampleRecord} {s : State}

theorem routedSample_of_stale (h : sequenceCheck s.streams[i].baseline r.sequence = .stale) :
    routedSample i r s = s.setStream i { s.streams[i] with stale := min 65535 (s.streams[i].stale + 1) } := by
  rw [routedSample, h]
  rfl

theorem routedSample_of_inOrder (h : sequenceCheck s.streams[i].baseline r.sequence = .inOrder) :
    routedSample i r s = acceptSample i false r (s.setStream i { s.streams[i] with baseline := some r.sequence }) := by
  rw [routedSample, h]

theorem routedSample_of_gap {k : Nat} (h : sequenceCheck s.streams[i].baseline r.sequence = .gap k) :
    routedSample i r s =
      acceptSample i true r
        (s.setStream i
          { s.streams[i] with baseline := some r.sequence, missing := min 65535 (s.streams[i].missing + k) }) := by
  rw [routedSample, h]
  rfl

/-! ## Routing (R56) -/

variable {n : Fin 8}

/-- A record routes to the stream it names where that stream is bound to the record's ring. -/
theorem routeOf_eq_some_of_bound (name : r.stream.toNat = i.val) (bound : s.streams[i].state ≠ .unbound)
    (ring : s.streams[i].sampleRing = n) : routeOf n r s = some i := by
  rw [routeOf, fieldBelow_eq_some.2 name]
  exact if_pos ⟨Stream.isBound_iff.2 bound, ring⟩

/-- A record routes nowhere where the stream it names, if any, is unbound or bound to another ring. -/
theorem routeOf_eq_none_of_unbound
    (h : ∀ i : Fin 64, r.stream.toNat = i.val → s.streams[i].state = .unbound ∨ s.streams[i].sampleRing ≠ n) :
    routeOf n r s = none := by
  unfold routeOf
  cases name : fieldBelow 64 r.stream with
  | none => rfl
  | some i =>
    refine if_neg fun ⟨bound, ring⟩ => ?_
    obtain unbound | other := h i (fieldBelow_eq_some.1 name)
    · exact Stream.isBound_iff.1 bound unbound
    · exact other ring

theorem processRecord_of_routed (h : routeOf n r s = some i) : processRecord n r s = routedSample i r s := by
  rw [processRecord, h]

theorem processRecord_of_unrouted (h : routeOf n r s = none) : processRecord n r s = countUnrouted n s := by
  rw [processRecord, h]

end

/-- Settles O41: a record routes to the stream it names or nowhere, and the distance of a routed one falls in one of the ranges of the
sequence check. -/
theorem routingAndSequenceCheck : Obligations.RoutingAndSequenceCheck := by
  intro n r s
  refine ⟨fun unrouted => ?_, fun i name bound ring => ?_⟩
  · exact processRecord_of_unrouted (routeOf_eq_none_of_unbound unrouted)
  · rw [processRecord_of_routed (routeOf_eq_some_of_bound name bound ring)]
    refine ⟨fun first => ?_, fun b baseline => ?_⟩
    · exact routedSample_of_inOrder (by rw [first]; rfl)
    · rw [seqDistance_eq]
      refine ⟨fun stale => ?_, fun next => ?_, fun low high => ?_⟩
      · exact routedSample_of_stale (by rw [baseline, sequenceCheck_stale (by omega)])
      · exact routedSample_of_inOrder (by rw [baseline, sequenceCheck_inOrder (by omega)])
      · exact routedSample_of_gap (by rw [baseline, sequenceCheck_gap (by omega) (by omega)]; rfl)

/-! ## Accepted samples (R58 to R61) -/

section
variable {i : Fin 64} {gap : Bool} {r : SampleRecord} {s : State}

theorem acceptSample_good (inService : s.streams[i].inService = true) (good : r.bad = false) :
    acceptSample i gap r s = goodSample i r (if gap then breakStream i s else s) := by
  rw [acceptSample, if_pos inService, good]
  rfl

theorem acceptSample_bad (inService : s.streams[i].inService = true) (bad : r.bad = true) :
    acceptSample i gap r s = badSample i s := by
  rw [acceptSample, if_pos inService, if_pos bad]

theorem acceptSample_silent (silent : s.streams[i].state = .silent) : acceptSample i gap r s = silentSample i r s :=
  if_neg (by rw [Stream.inService_iff, silent]; simp)

end

/-- What a good sample leaves: the stream is LIVE when the value is judged, and the judgement changes no stream (R59). -/
theorem goodSample_eq (i : Fin 64) (r : SampleRecord) (s : State) :
    goodSample i r s =
      let x := s.streams[i].setDeadline s.control.timeBase
      (evaluate
        { substitute := false, stream := i, value := r.value, sequence := r.sequence, time := s.control.timeBase,
          previous := x.previous }
        (s.setStream i { x with state := .live })).setStream i
        { x with state := .live, lastValue := r.value, previous := some r.value } := by
  simp [goodSample]

/-- What a BAD sample leaves (R60). -/
theorem badSample_eq (i : Fin 64) (s : State) :
    badSample i s =
      (runsBroken s.streams[i].watchList s).setStream i
        { s.streams[i].setDeadline s.control.timeBase with
          state := .live, bad := min 65535 (s.streams[i].bad + 1), previous := none } := by
  simp [badSample, breakStream_eq, runsBroken_setStream, Stream.setDeadline_eq, sat16_eq_min]

/-- Settles O42: by the stream's state and the BAD flag, through what each of the three kinds of sample leaves. -/
theorem acceptedSamples : Obligations.AcceptedSamples := by
  intro i gap r s
  refine ⟨fun inService good => ?_, fun inService bad => ?_, fun silent good => ?_, fun silent bad => ?_⟩
  · have streams : (if gap then runsBroken s.streams[i].watchList s else s).streams = s.streams := by cases gap <;> simp
    have control : (if gap then runsBroken s.streams[i].watchList s else s).control = s.control := by cases gap <;> simp
    rw [acceptSample_good (Stream.inService_iff.2 inService) good, breakStream_eq, goodSample_eq, streams, control,
      Stream.setDeadline_eq]
  · rw [acceptSample_bad (Stream.inService_iff.2 inService) bad, badSample_eq, Stream.setDeadline_eq]
  · rw [acceptSample_silent silent, silentSample, good]
    rfl
  · rw [acceptSample_silent silent, silentSample, bad]
    rfl

end Sys2Proof.Machine
end

section
/-!
PROOFS. The stream commands BIND_STREAM, UNBIND_STREAM and REVIVE_STREAM (O33, O34): what the sample intake answers on each branch of its
checks (R70 to R72), and what an accepted REVIVE_STREAM leaves.
-/

namespace Sys2Proof.Machine

/-! ## The pending entry of a source (R137) -/

/-- Result word 0 says whether the source has a pending entry. -/
theorem flagWord_hasPending (x : Source) (s : State) :
    flagWord (hasPending x s) = if ∃ e ∈ s.pool, e.source = x then 1 else 0 := by
  simp only [flagWord, hasPending_iff]

/-- A withdrawal keeps the entries of the other sources. -/
theorem withdraw_eq (x : Source) (s : State) :
    withdraw x s = s.setPool (s.pool.filter fun e => decide (e.source ≠ x)) := by
  simp [withdraw, bne, beq_eq_decide]

/-! ## BIND_STREAM (R70) -/

/-- The fallback byte is 0 or 1, and its fallback is present exactly at 1. -/
theorem bindFallback_of_le {p : BindParams} (h : p.fallbackPresent.toNat ≤ 1) :
    bindFallback p = some (if p.fallbackPresent = 1 then some p.fallback else none) := by
  unfold bindFallback
  by_cases absent : p.fallbackPresent = 0
  · simp [absent]
  · have present : p.fallbackPresent = 1 := by bv_omega
    simp [present]

theorem bindFallback_eq_none {p : BindParams} (h : ¬ p.fallbackPresent.toNat ≤ 1) : bindFallback p = none := by
  unfold bindFallback
  rw [if_neg (by bv_omega), if_neg (by bv_omega)]

section
variable {index : BitVec 16} {p : BindParams} {s : State} {i : Fin 64}

theorem bindStream_outOfRange (h : 64 ≤ index.toNat) : bindStream index p s = refuse .badArgument s := by
  rw [bindStream, fieldBelow_eq_none.2 h]

theorem bindStream_bound (h : index.toNat = i.val) (bound : s.streams[i].state ≠ .unbound) :
    bindStream index p s = refuse .wrongState s := by
  rw [bindStream, fieldBelow_eq_some.2 h]
  exact if_pos (Stream.isBound_iff.2 bound)

/-- One parameter out of its range is enough for the refusal. -/
theorem bindStream_badParams (h : index.toNat = i.val) (unbound : s.streams[i].state = .unbound)
    (bad : ¬ (p.sampleRing.toNat < 8 ∧ p.eventRing.toNat < 4 ∧ p.level.toNat < 8 ∧ p.fallbackPresent.toNat ≤ 1)) :
    bindStream index p s = refuse .badArgument s := by
  rw [bindStream, fieldBelow_eq_some.2 h]
  dsimp only
  rw [Stream.isBound_eq_false_iff.2 unbound, if_neg Bool.false_ne_true]
  split
  · rename_i n e l fallback ring event level present
    refine absurd ⟨?_, ?_, ?_, ?_⟩ bad
    · rw [fieldBelow_eq_some.1 ring]; exact n.isLt
    · rw [fieldBelow_eq_some.1 event]; exact e.isLt
    · rw [fieldBelow_eq_some.1 level]; exact l.isLt
    · by_contra out
      rw [bindFallback_eq_none out] at present
      cases present
  · rfl

/-- With parameters in range, what is left of BIND_STREAM are the checks of the two rings and the new entry. -/
theorem bindStream_goodParams {n : Fin 8} {e : Fin 4} {l : Level} (h : index.toNat = i.val)
    (unbound : s.streams[i].state = .unbound) (present : p.fallbackPresent.toNat ≤ 1) (ring : p.sampleRing.toNat = n.val)
    (event : p.eventRing.toNat = e.val) (level : p.level.toNat = l.val) :
    bindStream index p s =
      if s.rings.sample[n].state = .closed then refuse .wrongState s
      else if s.rings.event[e].state = .closed then refuse .wrongState s
      else
        .done .ok {}
          (s.setStream i
            (Stream.boundWith n e l p.timeout (if p.fallbackPresent = 1 then some p.fallback else none) s.control.timeBase)) := by
  rw [bindStream, fieldBelow_eq_some.2 h]
  dsimp only
  rw [Stream.isBound_eq_false_iff.2 unbound, if_neg Bool.false_ne_true, fieldBelow_eq_some.2 ring, fieldBelow_eq_some.2 event,
    fieldBelow_eq_some.2 level, bindFallback_of_le present]

/-! ## UNBIND_STREAM (R71) -/

/-- What an unbound entry without watches keeps (R71). -/
theorem Stream.unbind_eq {x : Stream} (unwatched : x.watchList = []) :
    x.unbind =
      { Stream.atReset with
        baseline := x.baseline
        lastValue := x.lastValue
        missing := x.missing
        stale := x.stale
        bad := x.bad
        heldCount := x.heldCount } := by
  rw [Stream.unbind, unwatched]
  rfl

theorem unbindStream_outOfRange (h : 64 ≤ index.toNat) : unbindStream index s = refuse .badArgument s := by
  rw [unbindStream, fieldBelow_eq_none.2 h]

theorem unbindStream_unbound (h : index.toNat = i.val) (unbound : s.streams[i].state = .unbound) :
    unbindStream index s = refuse .notFound s := by
  rw [unbindStream, fieldBelow_eq_some.2 h]
  exact if_pos (Stream.isBound_eq_false_iff.2 unbound)

theorem unbindStream_watched (h : index.toNat = i.val) (bound : s.streams[i].state ≠ .unbound)
    (watched : s.streams[i].watchList ≠ []) : unbindStream index s = refuse .inUse s := by
  rw [unbindStream, fieldBelow_eq_some.2 h]
  dsimp only
  rw [if_neg (by rwa [Stream.isBound_eq_false_iff]), if_pos watched]

theorem unbindStream_ok (h : index.toNat = i.val) (bound : s.streams[i].state ≠ .unbound)
    (unwatched : s.streams[i].watchList = []) :
    unbindStream index s =
      .done .ok { w0 := flagWord (hasPending (.stream i) s) } ((withdraw (.stream i) s).setStream i s.streams[i].unbind) := by
  rw [unbindStream, fieldBelow_eq_some.2 h]
  dsimp only
  rw [if_neg (by rwa [Stream.isBound_eq_false_iff]), if_neg (not_not.2 unwatched)]

/-! ## REVIVE_STREAM (R72) -/

theorem reviveStream_outOfRange (h : 64 ≤ index.toNat) : reviveStream index s = refuse .badArgument s := by
  rw [reviveStream, fieldBelow_eq_none.2 h]

theorem reviveStream_unbound (h : index.toNat = i.val) (unbound : s.streams[i].state = .unbound) :
    reviveStream index s = refuse .notFound s := by
  rw [reviveStream, fieldBelow_eq_some.2 h]
  exact if_pos (Stream.isBound_eq_false_iff.2 unbound)

theorem reviveStream_inService (h : index.toNat = i.val) (inService : s.streams[i].state = .bound ∨ s.streams[i].state = .live) :
    reviveStream index s = refuse .wrongState s := by
  rw [reviveStream, fieldBelow_eq_some.2 h]
  dsimp only
  obtain state | state := inService
  · rw [if_neg (by rw [Stream.isBound_eq_false_iff, state]; decide), if_pos (by rw [state]; decide)]
  · rw [if_neg (by rw [Stream.isBound_eq_false_iff, state]; decide), if_pos (by rw [state]; decide)]

theorem reviveStream_silent (h : index.toNat = i.val) (silent : s.streams[i].state = .silent) :
    reviveStream index s = .done .ok { w0 := flagWord s.streams[i].held } (reviveNow i s) := by
  rw [reviveStream, fieldBelow_eq_some.2 h]
  dsimp only
  rw [if_neg (by rw [Stream.isBound_eq_false_iff, silent]; decide), if_neg (not_not.2 silent)]

/-- The six steps without a held value: no value is judged (R72). -/
theorem reviveNow_notHeld (held : s.streams[i].held = false) :
    reviveNow i s =
      (runsBroken s.streams[i].watchList s).setStream i
        { s.streams[i].setDeadline s.control.timeBase with state := .bound, previous := none, baseline := none } := by
  rw [Fin.getElem_fin] at held
  simp [reviveNow, breakStream_eq, Stream.setDeadline_eq, held]

/-- The six steps with a held value, which is judged while the stream is LIVE and still has its baseline (R72). -/
theorem reviveNow_held (held : s.streams[i].held = true) :
    reviveNow i s =
      (evaluate
        { substitute := false, stream := i, value := s.streams[i].lastValue, sequence := s.streams[i].baseline.getD 0,
          time := s.control.timeBase, previous := none }
        ((runsBroken s.streams[i].watchList s).setStream i { s.streams[i] with state := .live, previous := none })).setStream i
        { s.streams[i].setDeadline s.control.timeBase with
          state := .live, previous := some s.streams[i].lastValue, baseline := none, held := false } := by
  rw [Fin.getElem_fin] at held
  simp [reviveNow, evaluateHeld, Stream.baselineOrZero, breakStream_eq, Stream.setDeadline_eq, held]

end

/-- Settles O33: each branch of the two commands is answered as R70 and R71 say. -/
theorem bindAndUnbindStream : Obligations.BindAndUnbindStream := by
  refine ⟨fun h p s arrives => ?bind, fun h s arrives => ?unbind⟩
  case bind =>
    refine ⟨fun out => ?_, fun i name => ⟨fun bound => ?_, fun unbound bad => ?_,
      fun n e l unbound present ring event level => ?_⟩⟩
    · exact refuses_of_refuse arrives rfl (bindStream_outOfRange out)
    · exact refuses_of_refuse arrives rfl (bindStream_bound name bound)
    · exact refuses_of_refuse arrives rfl (bindStream_badParams name unbound bad)
    · have answer := bindStream_goodParams (s := taken (recordOf h (.bindStream p)) s) name unbound present ring event level
      rw [taken_sample, taken_event] at answer
      refine ⟨fun closed => refuses_of_refuse arrives rfl ?_, fun sampleOpen eventOpen => answers_of_done arrives rfl ?_⟩
      · obtain sample | event := closed
        · rw [answer, if_pos sample]
        · rw [answer, if_pos event, ite_self]
      · rw [answer, if_neg sampleOpen, if_neg eventOpen, Stream.boundWith, Stream.setDeadline_eq]
        rfl
  case unbind =>
    refine ⟨fun out => ?_, fun i name => ⟨fun unbound => ?_, fun bound watched => ?_, fun bound unwatched => ?_⟩⟩
    · exact refuses_of_refuse arrives rfl (unbindStream_outOfRange out)
    · exact refuses_of_refuse arrives rfl (unbindStream_unbound name unbound)
    · exact refuses_of_refuse arrives rfl (unbindStream_watched name bound watched)
    · refine answers_of_done arrives rfl ?_
      rw [unbindStream_ok (s := taken _ s) name bound unwatched, flagWord_hasPending, withdraw_eq,
        Stream.unbind_eq (x := (taken _ s).streams[i]) unwatched]
      rfl

end Sys2Proof.Machine

namespace Sys2Proof.Laws

open Sys2Proof.Machine

/-- Settles O34: each branch of REVIVE_STREAM is answered as R72 says. (The owner's function has the theorem's name in
`Sys2Proof.Machine`.) -/
theorem reviveStream : Obligations.ReviveStream := by
  refine fun h s arrives => ⟨fun out => ?_, fun i name => ⟨fun unbound => ?_, fun inService => ?_, fun silent empty => ?_,
    fun silent held => ?_⟩⟩
  · exact refuses_of_refuse arrives rfl (reviveStream_outOfRange out)
  · exact refuses_of_refuse arrives rfl (reviveStream_unbound name unbound)
  · exact refuses_of_refuse arrives rfl (reviveStream_inService name inService)
  · refine answers_of_done arrives rfl ?_
    rw [reviveStream_silent (s := taken _ s) name silent, show (taken _ s).streams[i].held = false from empty,
      reviveNow_notHeld (s := taken _ s) empty, Stream.setDeadline_eq]
    rfl
  · refine answers_of_done arrives rfl ?_
    rw [reviveStream_silent (s := taken _ s) name silent, show (taken _ s).streams[i].held = true from held,
      reviveNow_held (s := taken _ s) held, Stream.setDeadline_eq]
    rfl

end Sys2Proof.Laws
end

section
/-!
PROOFS. The verdicts of the watch kinds (O43): one equation per kind (R81, R82), and when a test against an upper threshold fires, clears
and stays neutral.
-/

namespace Sys2Proof.Machine

section
variable {v upper h : Int}

theorem verdictAbove_eq_fire : verdictAbove v upper h = .fire ↔ upper < v := by
  unfold verdictAbove
  split_ifs with fires clears <;> simp only [true_iff, false_iff] <;> omega

/-- A hysteresis is never negative, so a value that clears does not fire (R81). -/
theorem verdictAbove_eq_clear (nonneg : 0 ≤ h) : verdictAbove v upper h = .clear ↔ v ≤ upper - h := by
  unfold verdictAbove
  split_ifs with fires clears <;> simp only [true_iff, false_iff] <;> omega

theorem verdictAbove_eq_neutral : verdictAbove v upper h = .neutral ↔ upper - h < v ∧ v ≤ upper := by
  unfold verdictAbove
  split_ifs with fires clears <;> simp only [true_iff, false_iff] <;> omega

end

section
variable {w : Watch} {p : Option Int}

theorem Watch.verdict_above (kind : w.kind = .above) (v : Int) :
    w.verdict v p = some (verdictAbove v w.upper.toInt w.hysteresis.toNat) := by
  rw [Watch.verdict, kind]

/-- A BELOW watch is an ABOVE watch of the mirrored value and threshold (R81). -/
theorem Watch.verdict_below (kind : w.kind = .below) (v : Int) :
    w.verdict v p = some (verdictAbove (-v) (-w.lower.toInt) w.hysteresis.toNat) := by
  have fires : -w.lower.toInt < -v ↔ v < w.lower.toInt := neg_lt_neg_iff
  have clears : -v ≤ -w.lower.toInt - w.hysteresis.toNat ↔ w.lower.toInt + w.hysteresis.toNat ≤ v := by omega
  simp only [Watch.verdict, kind, verdictAbove, fires, clears]

theorem Watch.verdict_outside (kind : w.kind = .outside) (v : Int) :
    w.verdict v p = some
      (if w.upper.toInt < v ∨ v < w.lower.toInt then .fire
       else if w.lower.toInt + w.hysteresis.toNat ≤ v ∧ v ≤ w.upper.toInt - w.hysteresis.toNat then .clear
       else .neutral) := by
  rw [Watch.verdict, kind]

/-- A STEP watch is an ABOVE watch of the magnitude of the step (R81). -/
theorem Watch.verdict_step (kind : w.kind = .step) (v : Int) :
    w.verdict v p = p.map fun q => verdictAbove |v - q| w.upper.toInt w.hysteresis.toNat := by
  simp only [Watch.verdict, kind, Int.abs_eq_natAbs]

end

/-- Settles O43: ABOVE, BELOW and STEP are tests against one threshold; OUTSIDE is its own pair of tests. -/
theorem verdictsOfTheKinds : Obligations.VerdictsOfTheKinds := by
  intro w v p upper lower h
  have nonneg : 0 ≤ h := Int.natCast_nonneg _
  refine ⟨fun above => ?_, fun below => ?_, fun outside ordered band => ?_, fun step absent => ?_, fun step q present => ?_⟩
  · simp only [Watch.verdict_above above, Option.some.injEq]
    exact ⟨verdictAbove_eq_fire, verdictAbove_eq_clear nonneg, verdictAbove_eq_neutral⟩
  · simp only [Watch.verdict_below below, Option.some.injEq]
    refine ⟨verdictAbove_eq_fire.trans ?_, (verdictAbove_eq_clear nonneg).trans ?_, verdictAbove_eq_neutral.trans ?_⟩ <;> omega
  · rw [Watch.verdict_outside outside]
    split_ifs with fires clears <;> simp only [Option.some.injEq, reduceCtorEq, true_iff, false_iff] <;> omega
  · rw [Watch.verdict_step step, absent]
    rfl
  · simp only [Watch.verdict_step step, present, Option.map_some, Option.some.injEq]
    exact ⟨verdictAbove_eq_fire, verdictAbove_eq_clear nonneg, verdictAbove_eq_neutral⟩

end Sys2Proof.Machine
end

section
/-!
PROOFS. The commands on a watch in use DELETE_WATCH, ARM_WATCH and DISARM_WATCH (O36): the checks they share (R89, R91, R96), and what the
screening unit answers once the entry is known to be in use.
-/

namespace Sys2Proof.Machine

/-- The checks of every command on a watch in use: the index, then the entry. -/
theorem refuses_of_onWatch {i : Instr} {rec : CommandRecord} {index : BitVec 16} {s : State} {act : State → Fin 128 → Watch → Answer}
    (arrives : commandArrives s = true) (row : exec i s = onCommandFetch rec (fun t => onWatch index t (act t)) s) :
    (128 ≤ index.toNat → Refuses i s rec .badArgument) ∧
    ∀ id : Fin 128, index.toNat = id.val → s.watches[id] = none → Refuses i s rec .notFound :=
  ⟨fun out => refuses_of_refuse arrives row (onWatch_outOfRange out),
   fun _ name free => refuses_of_refuse arrives row (onWatch_free name free)⟩

/-- The states of a watch that contributes to its line (R104). -/
theorem WatchState.onAlarmSide_iff {st : WatchState} : st.onAlarmSide = true ↔ st = .asserted ∨ st = .pendingClear ∨ st = .held := by
  cases st <;> simp [WatchState.onAlarmSide]

/-- A list without a watch id keeps the other ids (R86). -/
theorem removeId_eq (id : Fin 128) (l : List (Fin 128)) : removeId id l = l.filter fun y => decide (y ≠ id) := by
  simp [removeId, bne, beq_eq_decide]

section
variable {index : BitVec 16} {s : State} {id : Fin 128} {w : Watch}

theorem deleteWatch_armed (name : index.toNat = id.val) (used : s.watches[id] = some w) (armed : w.state ≠ .disarmed) :
    deleteWatch index s = refuse .wrongState s :=
  (onWatch_inUse name used).trans (if_pos armed)

theorem deleteWatch_disarmed (name : index.toNat = id.val) (used : s.watches[id] = some w) (disarmed : w.state = .disarmed) :
    deleteWatch index s =
      .done .ok { w0 := numWord (removeId id s.streams[w.stream].watchList).length }
        ((s.setWatch id none).setStream w.stream
          { s.streams[w.stream] with watchList := removeId id s.streams[w.stream].watchList }) :=
  (onWatch_inUse name used).trans (if_neg (not_not.2 disarmed))

theorem armWatch_armed (name : index.toNat = id.val) (used : s.watches[id] = some w) (armed : w.state ≠ .disarmed) :
    armWatch index s = refuse .wrongState s :=
  (onWatch_inUse name used).trans (if_pos armed)

theorem armWatch_disarmed (name : index.toNat = id.val) (used : s.watches[id] = some w) (disarmed : w.state = .disarmed) :
    armWatch index s = .done .ok {} (s.setWatch id (some { w.settle .clear with acknowledged := false })) :=
  (onWatch_inUse name used).trans (if_neg (not_not.2 disarmed))

theorem disarmWatch_disarmed (name : index.toNat = id.val) (used : s.watches[id] = some w) (disarmed : w.state = .disarmed) :
    disarmWatch index s = refuse .wrongState s :=
  (onWatch_inUse name used).trans (if_pos disarmed)

theorem disarmWatch_armed (name : index.toNat = id.val) (used : s.watches[id] = some w) (armed : w.state ≠ .disarmed) :
    disarmWatch index s =
      .done .ok { w0 := flagWord (hasPending (.watch id) s) }
        ((withdraw (.watch id) (if w.state.onAlarmSide then endContribution w.alarmLine s else s)).setWatch id
          (some { w.settle .disarmed with acknowledged := false })) :=
  (onWatch_inUse name used).trans (if_neg armed)

/-- The withdrawal of a disarmed watch's entry comes after its end report, which leaves the pool (R91). -/
theorem withdraw_endContribution (x : Source) (w : Watch) (s : State) :
    withdraw x (if w.state.onAlarmSide then endContribution w.alarmLine s else s) =
      (if w.state = .asserted ∨ w.state = .pendingClear ∨ w.state = .held then contributionEnded w.alarmLine s else s).setPool
        (s.pool.filter fun e => decide (e.source ≠ x)) := by
  rw [withdraw_eq]
  simp only [WatchState.onAlarmSide_iff, ← endContribution_eq]
  split
  · rw [endContribution_pool]
  · rfl

end

/-- Settles O36: the shared checks first, then each command by the state of the watch. -/
theorem deleteArmDisarmWatch : Obligations.DeleteArmDisarmWatch := by
  refine fun h s arrives => ⟨?checks, fun id w name used =>
    ⟨fun armed => ⟨?_, ?_⟩, fun disarmed => ?_, fun disarmed => ?delete, fun disarmed => ?arm, fun armed => ?disarm⟩⟩
  case checks =>
    simp only [List.forall_mem_cons, List.not_mem_nil, false_imp_iff, implies_true, and_true]
    exact ⟨refuses_of_onWatch arrives rfl, refuses_of_onWatch arrives rfl, refuses_of_onWatch arrives rfl⟩
  · exact refuses_of_refuse arrives rfl (deleteWatch_armed name used armed)
  · exact refuses_of_refuse arrives rfl (armWatch_armed name used armed)
  · exact refuses_of_refuse arrives rfl (disarmWatch_disarmed name used disarmed)
  case delete =>
    refine answers_of_done arrives rfl ?_
    rw [deleteWatch_disarmed (s := taken _ s) name used disarmed, removeId_eq, ← packed_number]
    rfl
  case arm => exact answers_of_done arrives rfl (armWatch_disarmed name used disarmed)
  case disarm =>
    refine answers_of_done arrives rfl ?_
    rw [disarmWatch_armed (s := taken _ s) name used armed, flagWord_hasPending, withdraw_endContribution]
    rfl

end Sys2Proof.Machine
end

section
/-!
PROOFS. MODIFY_WATCH (O37): what the writer of an event ring does at a check (R142 to R145), what raising the level of a pending entry
leaves (R94, R138), and from these the command's answers (R93).
-/

namespace Sys2Proof.Machine

/-! ## The writer of an event ring (R142 to R145) -/

/-- A choice stays while no later entry is of a higher level. -/
theorem foldl_betterEntry_of_le {e : PendingEntry} {l : List PendingEntry} (le : ∀ x ∈ l, x.level ≤ e.level) :
    l.foldl betterEntry (some e) = some e := by
  induction l with
  | nil => rfl
  | cons x l ih =>
    obtain ⟨first, rest⟩ := List.forall_mem_cons.1 le
    rw [List.foldl_cons, betterEntry, if_neg (not_lt.2 first), ih rest]

/-- A choice among entries below a level is below it. -/
theorem foldl_betterEntry_lt {k : Level} {l : List PendingEntry} (lt : ∀ x ∈ l, x.level < k) {best : Option PendingEntry}
    (start : ∀ b ∈ best, b.level < k) : ∀ b ∈ l.foldl betterEntry best, b.level < k := by
  induction l generalizing best with
  | nil => exact start
  | cons x l ih =>
    obtain ⟨first, rest⟩ := List.forall_mem_cons.1 lt
    refine ih rest fun b chosen => ?_
    cases best with
    | none => exact Option.mem_some.1 chosen ▸ first
    | some c =>
      rw [betterEntry] at chosen
      split at chosen
      · exact Option.mem_some.1 chosen ▸ first
      · exact Option.mem_some.1 chosen ▸ start c rfl

/-- An entry of a higher level is taken over every choice below it. -/
theorem betterEntry_of_lt {e : PendingEntry} {best : Option PendingEntry} (lt : ∀ b ∈ best, b.level < e.level) :
    betterEntry best e = some e := by
  cases best with
  | none => rfl
  | some b => exact if_pos (lt b rfl)

/-- The entry the writer takes is R143's. -/
theorem chosenEntry_of_isChoice {n : Fin 4} {s : State} {e : PendingEntry} (choice : IsChoice n s e) : chosenEntry n s = some e := by
  obtain ⟨above, older, younger, order, lower, noHigher⟩ := choice
  have deliverables : deliverable n s =
      older.filter (fun x => s.delivery[n].currentFloor < x.level) ++
        e :: younger.filter fun x => s.delivery[n].currentFloor < x.level := by
    rw [deliverable, order, List.filter_append, List.filter_cons_of_pos (by simpa using above)]
  have olderLower : ∀ x ∈ older.filter (fun x => s.delivery[n].currentFloor < x.level), x.level < e.level := by
    intro x hx
    rw [List.mem_filter, decide_eq_true_iff] at hx
    exact lower x hx.1 hx.2
  rw [chosenEntry, deliverables, List.foldl_append, List.foldl_cons,
    betterEntry_of_lt (foldl_betterEntry_lt olderLower (by simp)),
    foldl_betterEntry_of_le fun x hx => noHigher x (List.mem_of_mem_filter hx)]

/-- Without a deliverable entry the writer takes none. -/
theorem chosenEntry_eq_none {n : Fin 4} {s : State} (low : ∀ e ∈ pendingOrder n s.pool, e.level ≤ s.delivery[n].currentFloor) :
    chosenEntry n s = none := by
  have empty : deliverable n s = [] := List.filter_eq_nil_iff.2 fun e he => by simpa using low e he
  rw [chosenEntry, empty]
  rfl

/-- The check of a ring's writer is R142's to R145's. -/
theorem checkWriter_checked (n : Fin 4) (s : State) : WriterChecked n s (checkWriter n s) where
  idle can't := by rw [checkWriter, if_neg (mt writerReady_iff.1 can't)]
  overrun can owed := by
    rw [checkWriter, if_pos (writerReady_iff.2 can), if_pos owed]
    rfl
  entry can notOwed e choice := by
    rw [checkWriter, if_pos (writerReady_iff.2 can), if_neg (ne_true_of_eq_false notOwed), chosenEntry_of_isChoice choice]
    rfl
  nothing can notOwed low := by
    rw [checkWriter, if_pos (writerReady_iff.2 can), if_neg (ne_true_of_eq_false notOwed), chosenEntry_eq_none low]

/-! ## The level of a pending entry (R94, R138) -/

section
variable {x : Source} {l : Level} {s : State}

theorem raiseLevel_of_not_pending (absent : ∀ e ∈ s.pool, e.source ≠ x) : raiseLevel x l s = s := by
  rw [raiseLevel, pendingOf_eq_none.2 absent]

/-- The entry of the source takes the greater level in its place, and the other entries stay as they are. -/
theorem raiseLevel_of_pending {older younger : List PendingEntry} {e : PendingEntry} (pool : s.pool = older ++ e :: younger)
    (source : e.source = x) (inOlder : ∀ y ∈ older, y.source ≠ x) (inYounger : ∀ y ∈ younger, y.source ≠ x) :
    raiseLevel x l s = checkWriter e.target (s.setPool (older ++ { e with level := max e.level l } :: younger)) := by
  have others : ∀ entries : List PendingEntry, (∀ y ∈ entries, y.source ≠ x) →
      entries.map (fun q => if q.source = x then { q with level := maxLevel q.level l } else q) = entries :=
    fun entries other => (List.map_congr_left fun y hy => if_neg (other y hy)).trans (List.map_id' entries)
  rw [raiseLevel, pool, pendingOf_append source inOlder]
  dsimp only
  rw [List.map_append, List.map_cons, others older inOlder, others younger inYounger, if_pos source, maxLevel_eq_max]

end

/-! ## MODIFY_WATCH (R93) -/

section
variable {index : BitVec 16} {p : WatchParams} {s : State} {id : Fin 128} {w : Watch}

theorem modifyWatch_badFields (name : index.toNat = id.val) (used : s.watches[id] = some w) (bad : ¬ GoodFields w.kind p) :
    modifyWatch index p s = refuse .badArgument s := by
  have noFields : changeableFields w.kind p = none :=
    Option.eq_none_iff_forall_ne_some.2 fun _ fields => bad (good_of_changeableFields fields)
  rw [modifyWatch, onWatch_inUse name used, noFields]

theorem modifyWatch_goodFields {l : Level} (name : index.toNat = id.val) (used : s.watches[id] = some w) (good : GoodFields w.kind p)
    (level : p.level.toNat = l.val) :
    modifyWatch index p s =
      .done .ok { w0 := flagWord (hasPending (.watch id) s) }
        (raiseLevel (.watch id) l
          (s.setWatch id (some (brokenRun
            { w with
              upper := p.upper, lower := p.lower, hysteresis := p.hysteresis, na := p.na.toNat, nc := p.nc.toNat, level := l })))) := by
  rw [modifyWatch, onWatch_inUse name used, changeableFields_of_good good level]
  dsimp only
  rw [Watch.breakRun_eq]
  rfl

end

end Sys2Proof.Machine

namespace Sys2Proof.Laws

open Sys2Proof.Machine

/-- Settles O37: the checks, and on acceptance whether the watch has a pending entry. (The owner's function has the theorem's name in
`Sys2Proof.Machine`.) -/
theorem modifyWatch : Obligations.ModifyWatch := by
  intro h p s arrives
  obtain ⟨outOfRange, notFound⟩ := refuses_of_onWatch (i := .modifyWatch h p) arrives rfl
  refine ⟨outOfRange, fun id name => ⟨notFound id name, fun w used => ⟨fun bad => ?_, fun good l level => ?_⟩⟩⟩
  · exact refuses_of_refuse arrives rfl (modifyWatch_badFields name used bad)
  · have answer := modifyWatch_goodFields (s := taken (recordOf h (.modifyWatch p)) s) name used good level
    rw [flagWord_hasPending] at answer
    refine ⟨fun absent => answers_of_done arrives rfl ?_, fun older e younger pool source inOlder inYounger =>
      ⟨_, answers_of_done arrives rfl ?_, checkWriter_checked _ _⟩⟩
    · rw [answer, if_neg (by simpa using absent), raiseLevel_of_not_pending (by simpa using absent)]
    · rw [answer, if_pos ⟨e, by simp [pool], source⟩,
        raiseLevel_of_pending (s := State.setWatch id _ (taken _ s)) pool source inOlder inYounger]

end Sys2Proof.Laws
end

section
/-!
PROOFS. CREATE_WATCH (O35): when the parameters make a new watch (R84, R85), the watch they make (R80, R88), and what the screening unit
answers on each branch of its checks (R87).
-/

namespace Sys2Proof.Machine

/-! ## The watch the parameters make (R84, R85, R88) -/

/-- The code of a kind names it alone (R202, R203). -/
theorem watchKind_eq_some {code : Byte} {kind : WatchKind} : watchKind code = some kind ↔ code = kind.code := by
  constructor
  · intro named
    unfold watchKind at named
    split_ifs at named with above below outside step
    all_goals obtain rfl := Option.some.inj named
    exacts [above, below, outside, step]
  · rintro rfl
    cases kind <;> rfl

/-- The byte of a line, or of none, names it alone (R84). -/
theorem watchAlarmLine_eq_some {code : Byte} {line : Option (Fin 4)} :
    watchAlarmLine code = some line ↔ code = alarmLineByte line := by
  unfold watchAlarmLine
  cases line with
  | none => split <;> simp_all [alarmLineByte]
  | some a =>
    have byte : code = alarmLineByte (some a) ↔ code.toNat = a.val := by
      rw [← alarmLineByte_some a, BitVec.toNat_inj]
    rw [byte]
    split
    · rename_i noLine
      simp only [Option.some.injEq, reduceCtorEq, false_iff, noLine]
      exact fun same => absurd (same.symm ▸ a.isLt) (by decide)
    · simp [fieldBelow_eq_some]

/-- The watch of accepted parameters: DISARMED, with its dynamic fields empty (R80, R88). -/
def createdWatch (p : WatchParams) (i : Fin 64) (kind : WatchKind) (n : Fin 4) (line : Option (Fin 4)) (l : Level) : Watch where
  stream := i
  kind := kind
  target := n
  alarmLine := line
  hold := p.attributes.getLsbD 0
  latch := p.attributes.getLsbD 1
  upper := p.upper
  lower := p.lower
  hysteresis := p.hysteresis
  na := p.na.toNat
  nc := p.nc.toNat
  level := l
  state := .disarmed
  runCounter := 0
  acknowledged := false
  assertCount := 0
  lastEvaluated := none

section
variable {p : WatchParams} {i : Fin 64} {kind : WatchKind} {n : Fin 4} {line : Option (Fin 4)} {l : Level}

theorem newWatch_of_good (statics : NamesStatics p i kind n line) (good : GoodFields kind p) (level : p.level.toNat = l.val) :
    newWatch p = some (createdWatch p i kind n line l) := by
  obtain ⟨stream, kindCode, target, lineByte⟩ := statics
  rw [newWatch, fieldBelow_eq_some.2 stream, watchKind_eq_some.2 kindCode, fieldBelow_eq_some.2 target,
    watchAlarmLine_eq_some.2 lineByte]
  dsimp only
  rw [changeableFields_of_good good level]
  rfl

/-- Parameters that make a watch name its static fields and have good changeable ones. -/
theorem good_of_newWatch {w : Watch} (made : newWatch p = some w) :
    ∃ i kind n line, NamesStatics p i kind n line ∧ GoodFields kind p := by
  unfold newWatch at made
  split at made
  · rename_i i kind n line stream kindCode target lineByte
    obtain ⟨c, fields, -⟩ := Option.map_eq_some_iff.1 made
    exact ⟨i, kind, n, line,
      ⟨fieldBelow_eq_some.1 stream, watchKind_eq_some.1 kindCode, fieldBelow_eq_some.1 target, watchAlarmLine_eq_some.1 lineByte⟩,
      good_of_changeableFields fields⟩
  · cases made

end

/-! ## The answers of the screening unit (R87) -/

section
variable {index : BitVec 16} {p : WatchParams} {s : State} {id : Fin 128}

theorem createWatch_outOfRange (h : 128 ≤ index.toNat) : createWatch index p s = refuse .badArgument s := by
  rw [createWatch, fieldBelow_eq_none.2 h]

theorem createWatch_inUse (name : index.toNat = id.val) (used : s.watches[id] ≠ none) :
    createWatch index p s = refuse .inUse s := by
  rw [createWatch, fieldBelow_eq_some.2 name]
  exact if_pos (Option.isSome_iff_ne_none.2 used)

theorem createWatch_badParams (name : index.toNat = id.val) (free : s.watches[id] = none)
    (bad : ¬ ∃ i kind n line, NamesStatics p i kind n line ∧ GoodFields kind p) : createWatch index p s = refuse .badArgument s := by
  have noWatch : newWatch p = none := Option.eq_none_iff_forall_ne_some.2 fun _ made => bad (good_of_newWatch made)
  rw [createWatch, fieldBelow_eq_some.2 name]
  dsimp only
  rw [free, noWatch]
  rfl

/-- With good parameters, what is left of CREATE_WATCH are the checks of the stream, its list and the ring, and the new watch. -/
theorem createWatch_goodParams {i : Fin 64} {kind : WatchKind} {n : Fin 4} {line : Option (Fin 4)} {l : Level}
    (name : index.toNat = id.val) (free : s.watches[id] = none) (statics : NamesStatics p i kind n line) (good : GoodFields kind p)
    (level : p.level.toNat = l.val) :
    createWatch index p s =
      if s.streams[i].state = .unbound then refuse .wrongState s
      else if 8 ≤ s.streams[i].watchList.length then refuse .full s
      else if s.rings.event[n].state = .closed then refuse .wrongState s
      else
        .done .ok { w0 := numWord (insertId id s.streams[i].watchList).length }
          ((s.setWatch id (some (createdWatch p i kind n line l))).setStream i
            { s.streams[i] with watchList := insertId id s.streams[i].watchList }) := by
  rw [createWatch, fieldBelow_eq_some.2 name]
  dsimp only
  rw [free, newWatch_of_good statics good level]
  simp only [← Stream.isBound_eq_false_iff]
  rfl

end

end Sys2Proof.Machine

namespace Sys2Proof.Laws

open Sys2Proof.Machine

/-- Settles O35: the checks in order, and the id in its ordered place. (The owner's function has the theorem's name in
`Sys2Proof.Machine`.) -/
theorem createWatch : Obligations.CreateWatch := by
  refine fun h p s arrives => ⟨fun out => ?_, fun id name => ⟨fun used => ?_, fun free bad => ?_,
    fun i kind n line l free statics good level => ?_⟩⟩
  · exact refuses_of_refuse arrives rfl (createWatch_outOfRange out)
  · exact refuses_of_refuse arrives rfl (createWatch_inUse name used)
  · exact refuses_of_refuse arrives rfl (createWatch_badParams name free bad)
  · have answer := createWatch_goodParams (s := taken (recordOf h (.createWatch p)) s) name free statics good level
    rw [taken_streams, taken_event] at answer
    refine ⟨fun unbound => refuses_of_refuse arrives rfl ?_, fun bound full => refuses_of_refuse arrives rfl ?_,
      fun bound room closed => refuses_of_refuse arrives rfl ?_,
      fun bound room notClosed below above list lower higher => answers_of_done arrives rfl ?_⟩
    · rw [answer, if_pos unbound]
    · rw [answer, if_neg bound, if_pos full]
    · rw [answer, if_neg bound, if_neg (not_le.2 room), if_pos closed]
    · have length : (below ++ id :: above).length = s.streams[i].watchList.length + 1 := by
        rw [list, List.length_append, List.length_append, List.length_cons, Nat.add_assoc]
      rw [answer, if_neg bound, if_neg (not_le.2 room), if_neg notClosed, insertId_ordered list lower higher, length,
        ← packed_number]
      rfl

end Sys2Proof.Laws
end

section
/-!
PROOFS. The verdicts in normal mode (O44): what each verdict does on the clear side, in ASSERTED and PENDING_CLEAR, and in HELD (R106,
R108), and how a run is counted and completed (R107, R109).
-/

namespace Sys2Proof.Machine

section
variable {w : Watch}

/-! ## A run is counted or completed (R107, R109) -/

theorem Watch.countFire_completed (count : w.runCounter + 1 = w.na) : w.countFire = w.assertNow := if_pos count

theorem Watch.countFire_counted (count : w.runCounter + 1 ≠ w.na) :
    w.countFire = ({ w with state := .pendingAssert, runCounter := w.runCounter + 1 }, .stays) := if_neg count

theorem Watch.countClear_completed (count : w.runCounter + 1 = w.nc) : w.countClear = w.completeClearRun := if_pos count

theorem Watch.countClear_counted (count : w.runCounter + 1 ≠ w.nc) :
    w.countClear = ({ w with state := .pendingClear, runCounter := w.runCounter + 1 }, .stays) := if_neg count

/-! ## The verdicts by the state of the watch (R106, R108) -/

theorem Watch.normalVerdict_fire_clearSide (side : w.state = .clear ∨ w.state = .pendingAssert) :
    w.normalVerdict .fire = w.countFire := by
  obtain state | state := side <;> rw [Watch.normalVerdict, state]

/-- On the clear side every verdict but fire ends the run. -/
theorem Watch.normalVerdict_notFire_clearSide (side : w.state = .clear ∨ w.state = .pendingAssert) {v : Verdict} (other : v ≠ .fire) :
    w.normalVerdict v = (w.settle .clear, .stays) := by
  cases v with
  | fire => exact absurd rfl other
  | clear => obtain state | state := side <;> rw [Watch.normalVerdict, state]
  | neutral => obtain state | state := side <;> rw [Watch.normalVerdict, state]

theorem Watch.normalVerdict_clear_asserted (side : w.state = .asserted ∨ w.state = .pendingClear) :
    w.normalVerdict .clear = w.countClear := by
  obtain state | state := side <;> rw [Watch.normalVerdict, state]

/-- In ASSERTED and PENDING_CLEAR every verdict but clear ends the run. -/
theorem Watch.normalVerdict_notClear_asserted (side : w.state = .asserted ∨ w.state = .pendingClear) {v : Verdict}
    (other : v ≠ .clear) : w.normalVerdict v = (w.settle .asserted, .stays) := by
  cases v with
  | clear => exact absurd rfl other
  | fire => obtain state | state := side <;> rw [Watch.normalVerdict, state]
  | neutral => obtain state | state := side <;> rw [Watch.normalVerdict, state]

theorem Watch.normalVerdict_fire_held (held : w.state = .held) : w.normalVerdict .fire = ({ w with state := .asserted }, .stays) := by
  rw [Watch.normalVerdict, held]

theorem Watch.normalVerdict_notFire_held (held : w.state = .held) {v : Verdict} (other : v ≠ .fire) :
    w.normalVerdict v = (w, .stays) := by
  cases v with
  | fire => exact absurd rfl other
  | clear => rw [Watch.normalVerdict, held]
  | neutral => rw [Watch.normalVerdict, held]

end

/-- Settles O44: a fire run counts on the clear side and a clear run in ASSERTED and PENDING_CLEAR; any other verdict ends the run. -/
theorem normalModeTransitions : Obligations.NormalModeTransitions := by
  refine fun w => ⟨fun side => ⟨fun count => ?_, fun count => ?_, ?_, ?_⟩, fun side => ⟨fun count => ?_, fun count => ?_, ?_, ?_⟩,
    fun held => ⟨?_, ?_, ?_⟩⟩
  · exact (Watch.normalVerdict_fire_clearSide side).trans (Watch.countFire_completed count)
  · exact (Watch.normalVerdict_fire_clearSide side).trans (Watch.countFire_counted count)
  · exact Watch.normalVerdict_notFire_clearSide side nofun
  · exact Watch.normalVerdict_notFire_clearSide side nofun
  · exact (Watch.normalVerdict_clear_asserted side).trans (Watch.countClear_completed count)
  · exact (Watch.normalVerdict_clear_asserted side).trans (Watch.countClear_counted count)
  · exact Watch.normalVerdict_notClear_asserted side nofun
  · exact Watch.normalVerdict_notClear_asserted side nofun
  · exact Watch.normalVerdict_fire_held held
  · exact Watch.normalVerdict_notFire_held held nofun
  · exact Watch.normalVerdict_notFire_held held nofun

end Sys2Proof.Machine
end

section
/-!
PROOFS. ACK_WATCH (O38): what the hand-over of an event leaves (R132 to R135), when a watch's event is handed over (R124), and from these
what the screening unit answers in each state of the watch (R119 to R122).
-/

namespace Sys2Proof.Machine

/-! ## The hand-over of an event (R132 to R135) -/

/-- An event folds into an entry as R133 says. -/
theorem PendingEntry.fold_eq (p : PendingEntry) (e : Event) : p.fold e = folded e p := by
  rw [PendingEntry.fold, maxLevel_eq_max]
  rfl

/-- A change of the entries of a source changes its one entry in its place. -/
theorem map_ofSource {x : Source} {older younger : List PendingEntry} {p : PendingEntry} (change : PendingEntry → PendingEntry)
    (source : p.source = x) (inOlder : ∀ y ∈ older, y.source ≠ x) (inYounger : ∀ y ∈ younger, y.source ≠ x) :
    (older ++ p :: younger).map (fun q => if q.source = x then change q else q) = older ++ change p :: younger := by
  have others : ∀ entries : List PendingEntry, (∀ y ∈ entries, y.source ≠ x) →
      entries.map (fun q => if q.source = x then change q else q) = entries :=
    fun entries other => (List.map_congr_left fun y hy => if_neg (other y hy)).trans (List.map_id' entries)
  rw [List.map_append, List.map_cons, others older inOlder, others younger inYounger, if_pos source]

section
variable {e : Event} {s : State}

theorem handEvent_folds {older younger : List PendingEntry} {p : PendingEntry} (pool : s.pool = older ++ p :: younger)
    (source : p.source = e.source) (inOlder : ∀ y ∈ older, y.source ≠ e.source) (inYounger : ∀ y ∈ younger, y.source ≠ e.source) :
    handEvent e s = checkWriter p.target (s.setPool (older ++ folded e p :: younger)) := by
  rw [handEvent, pool, pendingOf_append source inOlder]
  dsimp only
  rw [map_ofSource (fun q => q.fold e) source inOlder inYounger, PendingEntry.fold_eq]

theorem handEvent_allocates (absent : ∀ y ∈ s.pool, y.source ≠ e.source) (room : s.pool.length < 64) :
    handEvent e s = checkWriter e.target (s.setPool (s.pool ++ [e.newEntry])) := by
  rw [handEvent, pendingOf_eq_none.2 absent]
  exact if_pos room

theorem handEvent_loses (absent : ∀ y ∈ s.pool, y.source ≠ e.source) (full : 64 ≤ s.pool.length) :
    handEvent e s = checkWriter e.target (s.setDelivery e.target s.delivery[e.target].countLoss) := by
  rw [handEvent, pendingOf_eq_none.2 absent]
  exact if_neg (not_lt.2 full)

end

/-- A hand-over is folded, allocated or lost, and the writer it concerns then checks (R132 to R135). -/
theorem handEvent_handed (e : Event) (s : State) : EventHanded e s (handEvent e s) where
  folds _ p _ pool source inOlder inYounger :=
    handEvent_folds pool source inOlder inYounger ▸ checkWriter_checked p.target _
  allocates absent room := handEvent_allocates absent room ▸ checkWriter_checked e.target _
  loses absent full := handEvent_loses absent full ▸ checkWriter_checked e.target _

/-- A watch's event is handed over exactly at a level above 0 (R124). -/
theorem handWatchEvent_handed (w : Watch) (id : Fin 128) (kind : EventKind) (value : Word) (sequence : Seq) (time : Time)
    (fallback : Bool) (s : State) :
    HandedUnlessLevelZero (w.event id kind value sequence time fallback) s
      (handWatchEvent w id kind value sequence time fallback s) := by
  refine ⟨fun zero => if_neg ?_, fun positive => ?_⟩
  · rw [show w.level = 0 from zero]
    exact lt_irrefl 0
  · rw [handWatchEvent, if_pos (show 0 < w.level from positive)]
    exact handEvent_handed _ s

/-! ## The answers of the screening unit (R119 to R122) -/

section
variable {index : BitVec 16} {s : State} {id : Fin 128} {w : Watch}

theorem ackWatch_notAlarmSide (name : index.toNat = id.val) (used : s.watches[id] = some w)
    (state : w.state = .disarmed ∨ w.state = .clear ∨ w.state = .pendingAssert) : ackWatch index s = refuse .wrongState s := by
  rw [ackWatch, onWatch_inUse name used]
  obtain state | state | state := state <;> rw [state]

theorem ackWatch_asserted (name : index.toNat = id.val) (used : s.watches[id] = some w)
    (state : w.state = .asserted ∨ w.state = .pendingClear) :
    ackWatch index s = .done .ok {} (s.setWatch id (some { w with acknowledged := true })) := by
  rw [ackWatch, onWatch_inUse name used]
  obtain state | state := state <;> rw [state]

/-- In HELD the watch moves to CLEAR: its event is handed over, and then its contribution ends. -/
theorem ackWatch_held {value : Word} (name : index.toNat = id.val) (used : s.watches[id] = some w) (held : w.state = .held)
    (last : w.lastEvaluated = some value) :
    ackWatch index s =
      .done .ok { w0 := 1 }
        (contributionEnded w.alarmLine
          (handWatchEvent (w.settle .clear) id .watchClear value s.streams[w.stream].baselineOrZero s.control.timeBase false
            (s.setWatch id (some (w.settle .clear))))) := by
  rw [ackWatch, onWatch_inUse name used, held, last, ← endContribution_eq]
  rfl

end

end Sys2Proof.Machine

namespace Sys2Proof.Laws

open Sys2Proof.Machine

/-- Settles O38: the shared checks, and then the states of the watch. (The owner's function has the theorem's name in
`Sys2Proof.Machine`.) -/
theorem ackWatch : Obligations.AckWatch := by
  intro h s arrives
  obtain ⟨outOfRange, notFound⟩ := refuses_of_onWatch (i := .ackWatch h) arrives rfl
  refine ⟨outOfRange, fun id name => ⟨notFound id name, fun w used => ⟨fun state => ?_, fun state => ?_, fun held value last => ?_⟩⟩⟩
  · exact refuses_of_refuse arrives rfl (ackWatch_notAlarmSide name used state)
  · exact answers_of_done arrives rfl (ackWatch_asserted name used state)
  · exact ⟨_, answers_of_done arrives rfl (ackWatch_held (s := taken _ s) name used held last),
      handWatchEvent_handed (w.settle .clear) id .watchClear value _ _ false _⟩

end Sys2Proof.Laws
end

section
/-!
PROOFS. The floor commands RELEASE and SET_FLOOR (O39): what the delivery unit answers on each branch of its checks (R152, R154).
-/

namespace Sys2Proof.Machine

/-! ## A hold record in flight (R154) -/

theorem holdWriteInFlight_eq_any (n : Fin 4) (s : State) : holdWriteInFlight n s = (recordInFlight n s).any EventRecord.holds := by
  unfold holdWriteInFlight recordInFlight
  obtain _ | ⟨payload, address, epoch, phase⟩ := s.access (eventRequester n)
  · rfl
  · cases payload <;> rfl

theorem holdWriteInFlight_iff {n : Fin 4} {s : State} :
    holdWriteInFlight n s = true ↔ ∃ r, recordInFlight n s = some r ∧ r.holds = true := by
  rw [holdWriteInFlight_eq_any, Option.any_eq_true]

/-- Taking a command leaves the records in flight to the event rings. -/
theorem taken_recordInFlight (rec : CommandRecord) (n : Fin 4) (s : State) : recordInFlight n (taken rec s) = recordInFlight n s := by
  rw [recordInFlight, taken_access_event, recordInFlight]

section
variable {index : BitVec 16} {s : State} {n : Fin 4}

/-! ## RELEASE (R152) -/

theorem release_outOfRange (h : 4 ≤ index.toNat) : release index s = refuse .badArgument s := by
  rw [release, fieldBelow_eq_none.2 h]

theorem release_closedOrEmpty (name : index.toNat = n.val) (h : s.rings.event[n].state = .closed ∨ s.delivery[n].floorStack = []) :
    release index s = refuse .wrongState s := by
  rw [release, fieldBelow_eq_some.2 name]
  dsimp only
  obtain closed | empty := h
  · rw [if_pos closed]
  · rw [empty]
    exact ite_self _

/-- The most recent level leaves the stack, and word 1 is the floor that the levels left give. -/
theorem release_pops {stack : List Level} {top : Level} (name : index.toNat = n.val) (notClosed : s.rings.event[n].state ≠ .closed)
    (levels : s.delivery[n].floorStack = stack ++ [top]) :
    release index s =
      .done .ok
        { w0 := levelWord top, w1 := levelWord (stack.getLast?.getD s.delivery[n].baseFloor), w2 := numWord stack.length }
        (checkWriter n (s.setDelivery n { s.delivery[n] with floorStack := stack })) := by
  rw [release, fieldBelow_eq_some.2 name]
  dsimp only
  rw [if_neg notClosed, levels, List.getLast?_concat, List.dropLast_concat]
  rfl

/-! ## SET_FLOOR (R154) -/

variable {level : Byte} {l : Level}

/-- One field out of its range is enough for the refusal. -/
theorem setFloor_outOfRange (h : 4 ≤ index.toNat ∨ 8 ≤ level.toNat) : setFloor index level s = refuse .badArgument s := by
  unfold setFloor
  obtain ring | high := h
  · rw [fieldBelow_eq_none.2 ring]
  · rw [fieldBelow_eq_none.2 high]
    cases fieldBelow 4 index <;> rfl

/-- With the ring and the level in range, what is left of SET_FLOOR are the checks of the ring's state and the new base floor. -/
theorem setFloor_inRange (name : index.toNat = n.val) (new : level.toNat = l.val) :
    setFloor index level s =
      if s.rings.event[n].state = .closed then refuse .wrongState s
      else if s.delivery[n].floorStack ≠ [] ∨ ∃ r, recordInFlight n s = some r ∧ r.holds = true then refuse .wrongState s
      else
        .done .ok { w0 := levelWord s.delivery[n].baseFloor }
          (checkWriter n (s.setDelivery n { s.delivery[n] with baseFloor := l })) := by
  rw [setFloor, fieldBelow_eq_some.2 name, fieldBelow_eq_some.2 new]
  simp only [holdWriteInFlight_iff]

end

/-- Settles O39: each branch of the two commands is answered as R152 and R154 say, and the writer's check is R142's to R145's. -/
theorem releaseAndSetFloor : Obligations.ReleaseAndSetFloor := by
  refine fun h level s arrives => ⟨fun out => ?_, fun out => ?_, fun n name =>
    ⟨fun closedOrEmpty => ?_, fun notClosed stack top levels => ?pops, fun l new => ?set⟩⟩
  · exact refuses_of_refuse arrives rfl (release_outOfRange out)
  · exact refuses_of_refuse arrives rfl (setFloor_outOfRange out)
  · exact refuses_of_refuse arrives rfl (release_closedOrEmpty name closedOrEmpty)
  case pops =>
    simp only [packed_number]
    exact ⟨_, answers_of_done arrives rfl (release_pops (s := taken _ s) name notClosed levels), checkWriter_checked n _⟩
  case set =>
    have answer := setFloor_inRange (s := taken (recordOf h (.setFloor level)) s) name new
    rw [taken_event, taken_delivery, taken_recordInFlight] at answer
    refine ⟨fun blocked => refuses_of_refuse arrives rfl ?_, fun notClosed empty noHold =>
      ⟨_, answers_of_done arrives rfl ?_, checkWriter_checked n _⟩⟩
    · obtain closed | levelsOrHold := blocked
      · rw [answer, if_pos closed]
      · rw [answer, if_pos levelsOrHold, ite_self]
    · rw [answer, if_neg notClosed, if_neg (not_or.2 ⟨not_not.2 empty, noHold⟩), packed_number]
      rfl

end Sys2Proof.Machine
end

section
/-!
PROOFS. The hand-over of an event (O47): the three cases are `handEvent_folds`, `handEvent_allocates` and `handEvent_loses`, each with the
writer's check after it.
-/

namespace Sys2Proof.Machine

/-- Settles O47: a pending entry of the source, a free entry, or a loss, as R133 to R135 say. -/
theorem handOverFoldsAllocatesOrLoses : Obligations.HandOverFoldsAllocatesOrLoses := handEvent_handed

end Sys2Proof.Machine
end

section
/-!
PROOFS. The alarm commands CONFIGURE_ALARM and RELEASE_ALARM (O40): the result words of the alarm unit as packed fields (R203), and what
the unit answers on each branch of its checks (R166, R167).
-/

namespace Sys2Proof.Machine

/-! ## Result words (R203) -/

/-- A flag is the number 1 or 0 in a field of 32 bits. -/
theorem packed_flag (b : Bool) : packed [(0, 32, b.toNat)] = flagWord b := by
  cases b <;> rfl

/-- A byte code is zero-extended to a field of 32 bits. -/
theorem packed_byte (b : Byte) : packed [(0, 32, b.toNat)] = b.setWidth 32 := by
  rw [packed_number, numWord, BitVec.ofNat_toNat]

/-! ## The mode byte (R202) -/

theorem alarmMode_eq_none {code : Byte} (h : 2 ≤ code.toNat) : alarmMode code = none := by
  unfold alarmMode
  rw [if_neg (by rintro rfl; exact absurd h (by decide)), if_neg (by rintro rfl; exact absurd h (by decide))]

theorem alarmMode_code (m : AlarmMode) : alarmMode m.code = some m := by
  cases m <;> rfl

section
variable {index : BitVec 16} {s : State} {a : Fin 4}

/-! ## CONFIGURE_ALARM (R166) -/

/-- A change from LATCH to FOLLOW makes the asserted state follow the count. -/
theorem AlarmLine.setMode_latchToFollow {l : AlarmLine} (latch : l.mode = .latch) :
    l.setMode .follow = { mode := .follow, asserted := decide (0 < l.count), count := l.count } := by
  unfold setMode
  rw [latch]

/-- Every other setting of the mode keeps the asserted state. -/
theorem AlarmLine.setMode_keepsAsserted {l : AlarmLine} {m : AlarmMode} (other : l.mode = .latch → m = .follow → False) :
    l.setMode m = { mode := m, asserted := l.asserted, count := l.count } := by
  unfold setMode
  split
  · exact absurd rfl (other ‹_›)
  · rfl

/-- One field out of its range is enough for the refusal. -/
theorem configureAlarm_outOfRange {mode : Byte} (h : 4 ≤ index.toNat ∨ 2 ≤ mode.toNat) :
    configureAlarm index mode s = refuse .badArgument s := by
  unfold configureAlarm
  obtain line | high := h
  · rw [fieldBelow_eq_none.2 line]
  · rw [alarmMode_eq_none high]
    cases fieldBelow 4 index <;> rfl

theorem configureAlarm_inRange (name : index.toNat = a.val) (m : AlarmMode) :
    configureAlarm index m.code s =
      .done .ok
        { w0 := s.alarms[a].mode.code.setWidth 32
          w1 := flagWord (s.alarms[a].setMode m).asserted
          w2 := numWord s.alarms[a].count }
        (s.setAlarm a (s.alarms[a].setMode m)) := by
  rw [configureAlarm, fieldBelow_eq_some.2 name, alarmMode_code]
  rfl

/-! ## RELEASE_ALARM (R167) -/

theorem releaseAlarm_outOfRange (h : 4 ≤ index.toNat) : releaseAlarm index s = refuse .badArgument s := by
  rw [releaseAlarm, fieldBelow_eq_none.2 h]

theorem releaseAlarm_follow (name : index.toNat = a.val) (follow : s.alarms[a].mode = .follow) :
    releaseAlarm index s = refuse .wrongState s := by
  rw [releaseAlarm, fieldBelow_eq_some.2 name]
  exact if_pos (by rw [follow]; decide)

theorem releaseAlarm_active (name : index.toNat = a.val) (latch : s.alarms[a].mode = .latch) (active : s.alarms[a].count ≠ 0) :
    releaseAlarm index s = refuse .stillActive s := by
  rw [releaseAlarm, fieldBelow_eq_some.2 name]
  dsimp only
  rw [if_neg (not_not.2 latch), if_pos active]

theorem releaseAlarm_releases (name : index.toNat = a.val) (latch : s.alarms[a].mode = .latch) (inactive : s.alarms[a].count = 0) :
    releaseAlarm index s =
      .done .ok { w0 := flagWord s.alarms[a].asserted } (s.setAlarm a { s.alarms[a] with asserted := false }) := by
  rw [releaseAlarm, fieldBelow_eq_some.2 name]
  dsimp only
  rw [if_neg (not_not.2 latch), if_neg (not_not.2 inactive)]

end

/-- Settles O40: each branch of the two commands is answered as R166 and R167 say; a mode change is split into LATCH to FOLLOW and the
others. -/
theorem alarmCommands : Obligations.AlarmCommands := by
  refine fun h mode s arrives => ⟨fun out => ?_, fun out => ?_, fun a name =>
    ⟨fun m code => ?configure, fun follow => ?_, fun latch active => ?_, fun latch inactive => ?release⟩⟩
  · exact refuses_of_refuse arrives rfl (configureAlarm_outOfRange out)
  · exact refuses_of_refuse arrives rfl (releaseAlarm_outOfRange out)
  case configure =>
    subst code
    have answer := configureAlarm_inRange (s := taken (recordOf h (.configureAlarm m.code)) s) name m
    rw [taken_alarms, ← packed_byte, ← packed_flag, ← packed_number] at answer
    split
    next latch =>
      rw [AlarmLine.setMode_latchToFollow latch] at answer
      exact answers_of_done arrives rfl answer
    next other =>
      rw [AlarmLine.setMode_keepsAsserted other] at answer
      exact answers_of_done arrives rfl answer
  · exact refuses_of_refuse arrives rfl (releaseAlarm_follow name follow)
  · exact refuses_of_refuse arrives rfl (releaseAlarm_active name latch active)
  case release =>
    simp only [packed_flag]
    exact answers_of_done arrives rfl (releaseAlarm_releases (s := taken _ s) name latch inactive)

end Sys2Proof.Machine
end

section
/-!
PROOFS. What a transition of a watch leaves (chapter 5): its static fields, the side it is on by its crossing, and the law of its run counter
(R105). The laws that every step keeps rest on these.
-/

namespace Sys2Proof.Machine

/-- `w'` names the stream, the ring and the line that `w` names (R79). -/
structure SameStatics (w w' : Watch) : Prop where
  stream : w'.stream = w.stream
  target : w'.target = w.target
  alarmLine : w'.alarmLine = w.alarmLine

/-- The crossing says how the side of the watch changes (R124, R127). -/
def Crossing.agrees (before after : Bool) : Crossing → Prop
  | .stays => after = before
  | .asserts => before = false ∧ after = true
  | .clears => before = true ∧ after = false

/-- What every transition of a watch leaves: the static fields, the side its crossing says, and the law of R105. -/
structure Transition (w : Watch) (out : Watch × Crossing) : Prop where
  statics : SameStatics w out.1
  side : out.2.agrees w.state.onAlarmSide out.1.state.onAlarmSide
  law : WatchLaw w → WatchLaw out.1

section
variable {w : Watch}

/-- A settled watch obeys its law in every state that asks for no run; HELD asks for a latched watch that is not acknowledged. -/
theorem WatchLaw.settle {st : WatchState} (h : WatchLaw w) (noAssert : st ≠ .pendingAssert) (noClear : st ≠ .pendingClear)
    (held : st = .held → w.latch = true ∧ w.acknowledged = false) : WatchLaw (w.settle st) where
  na := h.na
  nc := h.nc
  fireRun e := absurd e noAssert
  clearRun e := absurd e noClear
  noRun _ _ := rfl
  held := held
  assertCount := h.assertCount

theorem Transition.refl : Transition w (w, .stays) := ⟨⟨rfl, rfl, rfl⟩, rfl, id⟩

/-- A run that is broken or ended by another verdict (R106, R108, R112). -/
theorem Watch.settle_transition {st : WatchState} {c : Crossing} (side : c.agrees w.state.onAlarmSide st.onAlarmSide)
    (noAssert : st ≠ .pendingAssert := by decide) (noClear : st ≠ .pendingClear := by decide)
    (held : st = .held → w.latch = true ∧ w.acknowledged = false := by rintro ⟨⟩) : Transition w (w.settle st, c) :=
  ⟨⟨rfl, rfl, rfl⟩, side, fun h => h.settle noAssert noClear held⟩

theorem Watch.assertNow_transition (side : w.state.onAlarmSide = false) : Transition w w.assertNow where
  statics := ⟨rfl, rfl, rfl⟩
  side := ⟨side, rfl⟩
  law h :=
    { na := h.na
      nc := h.nc
      fireRun := by rintro ⟨⟩
      clearRun := by rintro ⟨⟩
      noRun := fun _ _ => rfl
      held := by rintro ⟨⟩
      assertCount := Nat.min_le_left _ _ }

theorem Watch.completeClearRun_transition (side : w.state.onAlarmSide = true) : Transition w w.completeClearRun := by
  unfold Watch.completeClearRun
  split
  · exact Watch.settle_transition side.symm (held := fun _ => ‹_›)
  · exact Watch.settle_transition ⟨side, rfl⟩

theorem Watch.countFire_transition (state : w.state = .clear ∨ w.state = .pendingAssert) : Transition w w.countFire := by
  have side : w.state.onAlarmSide = false := by obtain e | e := state <;> rw [e] <;> rfl
  unfold Watch.countFire
  split
  · exact Watch.assertNow_transition side
  · rename_i short
    refine ⟨⟨rfl, rfl, rfl⟩, side.symm, fun h => ?_⟩
    have below : w.runCounter < w.na := by
      obtain e | e := state
      · have := h.noRun (by simp [e]) (by simp [e]); have := h.na; omega
      · exact (h.fireRun e).2
    exact { h with fireRun := fun _ => ⟨Nat.le_add_left _ _, by dsimp only; omega⟩, clearRun := by rintro ⟨⟩,
                   noRun := fun e => absurd rfl e, held := by rintro ⟨⟩ }

theorem Watch.countClear_transition (state : w.state = .asserted ∨ w.state = .pendingClear) : Transition w w.countClear := by
  have side : w.state.onAlarmSide = true := by obtain e | e := state <;> rw [e] <;> rfl
  unfold Watch.countClear
  split
  · exact Watch.completeClearRun_transition side
  · rename_i short
    refine ⟨⟨rfl, rfl, rfl⟩, side.symm, fun h => ?_⟩
    have below : w.runCounter < w.nc := by
      obtain e | e := state
      · have := h.noRun (by simp [e]) (by simp [e]); have := h.nc; omega
      · exact (h.clearRun e).2
    exact { h with fireRun := by rintro ⟨⟩, clearRun := fun _ => ⟨Nat.le_add_left _ _, by dsimp only; omega⟩,
                   noRun := fun _ e => absurd rfl e, held := by rintro ⟨⟩ }

/-- A fire verdict in HELD: the run counter is 0 there already (R108). -/
theorem Watch.reassert_transition (held : w.state = .held) : Transition w ({ w with state := .asserted }, .stays) :=
  ⟨⟨rfl, rfl, rfl⟩, by rw [held]; rfl, fun h =>
    { h with fireRun := by rintro ⟨⟩, clearRun := by rintro ⟨⟩,
             noRun := fun _ _ => h.noRun (by simp [held]) (by simp [held]), held := by rintro ⟨⟩ }⟩

theorem Watch.normalVerdict_transition (v : Verdict) : Transition w (w.normalVerdict v) := by
  cases v with
  | fire =>
    unfold Watch.normalVerdict
    cases state : w.state with
    | clear => exact Watch.countFire_transition (.inl state)
    | pendingAssert => exact Watch.countFire_transition (.inr state)
    | asserted | pendingClear => exact Watch.settle_transition (by rw [state]; rfl)
    | held => exact Watch.reassert_transition state
    | disarmed => exact .refl
  | clear =>
    unfold Watch.normalVerdict
    cases state : w.state with
    | clear | pendingAssert => exact Watch.settle_transition (by rw [state]; rfl)
    | asserted => exact Watch.countClear_transition (.inl state)
    | pendingClear => exact Watch.countClear_transition (.inr state)
    | held | disarmed => exact .refl
  | neutral =>
    unfold Watch.normalVerdict
    cases state : w.state with
    | clear | pendingAssert | asserted | pendingClear => exact Watch.settle_transition (by rw [state]; rfl)
    | held | disarmed => exact .refl

theorem Watch.breakRun_transition : Transition w (w.breakRun, .stays) := by
  have kept (noAssert : w.state ≠ .pendingAssert) (noClear : w.state ≠ .pendingClear) :
      Transition w ({ w with runCounter := 0 }, .stays) :=
    ⟨⟨rfl, rfl, rfl⟩, rfl, fun h =>
      { h with fireRun := fun e => absurd e noAssert, clearRun := fun e => absurd e noClear, noRun := fun _ _ => rfl }⟩
  unfold Watch.breakRun
  split
  case h_1 state | h_2 state => exact Watch.settle_transition (by rw [state]; rfl)
  case h_3 state | h_4 state | h_5 state | h_6 state => exact kept (by simp [state]) (by simp [state])

theorem Watch.substituteVerdict_transition (v : Verdict) : Transition w (w.substituteVerdict v) := by
  cases v with
  | fire =>
    unfold Watch.substituteVerdict
    cases state : w.state with
    | clear | pendingAssert => exact Watch.assertNow_transition (by rw [state]; rfl)
    | pendingClear => exact Watch.settle_transition (by rw [state]; rfl)
    | asserted | held | disarmed => exact .refl
  | clear =>
    unfold Watch.substituteVerdict
    cases state : w.state with
    | pendingAssert => exact Watch.settle_transition (by rw [state]; rfl)
    | asserted | pendingClear => exact Watch.completeClearRun_transition (by rw [state]; rfl)
    | clear | held | disarmed => exact .refl
  | neutral => exact Watch.breakRun_transition

/-- A transition of the watch that holds another last evaluated value is one of the watch. -/
theorem Transition.ofEvaluated {value : Option Word} {out : Watch × Crossing}
    (h : Transition { w with lastEvaluated := value } out) : Transition w out :=
  ⟨⟨h.statics.stream, h.statics.target, h.statics.alarmLine⟩, h.side, fun law => h.law { law with }⟩

theorem Watch.judged_transition (r : EvalRequest) : Transition w (w.judged r) := by
  unfold Watch.judged
  split
  · exact .ofEvaluated .refl
  · split
    · exact .ofEvaluated (Watch.substituteVerdict_transition _)
    · exact .ofEvaluated (Watch.normalVerdict_transition _)

end

end Sys2Proof.Machine
end

section
/-!
PROOFS. The changes the blocks make to the part. `Change` lists the kinds of change that a processed sample, a silence expiry, a writer's
check or the owner of a command can make, each with what the laws of the steps need to know of it; none touches the control unit, the command
engine or an access other than an event ring's. Later lemmas say once of each operation that it is a sequence of such changes.
-/

namespace Sys2Proof.Machine

/-! ## Laws of one line and one ring -/

/-- R165 for one line. -/
def AlarmLineLaw (l : AlarmLine) : Prop :=
  (l.mode = .follow → (l.asserted = true ↔ 0 < l.count)) ∧ (l.mode = .latch → 0 < l.count → l.asserted = true)

/-- R2, R3, R5 for one sample ring. -/
def SampleRingLaw (r : SampleRing) : Prop :=
  DescriptorLaw 16 4096 r.toDescriptor ∧ (r.cause = .noCause ↔ r.state ≠ .faulted)

/-- R2, R3, R5 for one event ring. -/
def EventRingLaw (r : EventRing) : Prop :=
  DescriptorLaw 8 1024 r.toDescriptor ∧ (r.cause = .noCause ↔ r.state ≠ .faulted)

/-- `y` has the binding and the watch list of `x` (R51, R53). -/
structure SameBinding (x y : Stream) : Prop where
  bound : y.isBound = x.isBound
  sampleRing : y.sampleRing = x.sampleRing
  eventRing : y.eventRing = x.eventRing
  watchList : y.watchList = x.watchList

/-! ## The kinds of change -/

/-- One change of the part. -/
inductive Change : State → State → Prop
  /-- an entry of the stream table that keeps its binding -/
  | stream {s : State} (i : Fin 64) (x : Stream) (binding : SameBinding s.streams[i] x) (law : StreamLaw s.streams[i] → StreamLaw x) :
    Change s (s.setStream i x)
  /-- a stream is bound to rings that are not CLOSED, by a command that does not wait (R70) -/
  | bind {s : State} (i : Fin 64) (x : Stream) (before : s.streams[i].isBound = false) (after : x.isBound = true)
    (watchList : x.watchList = []) {n : Fin 8} (sampleRing : x.sampleRing = n) (sampleOpen : s.rings.sample[n].state ≠ .closed)
    {e : Fin 4} (eventRing : x.eventRing = e) (eventOpen : s.rings.event[e].state ≠ .closed) (law : StreamLaw x)
    (phase : s.cmd.phase ≠ .executing) : Change s (s.setStream i x)
  /-- a stream without watches is unbound (R71) -/
  | unbind {s : State} (i : Fin 64) (x : Stream) (before : s.streams[i].watchList = []) (after : x.isBound = false)
    (watchList : x.watchList = []) (law : StreamLaw s.streams[i] → StreamLaw x) : Change s (s.setStream i x)
  /-- a watch moves on its side -/
  | watch {s : State} (id : Fin 128) (w w' : Watch) (used : s.watches[id] = some w) (moves : Transition w (w', .stays)) :
    Change s (s.setWatch id (some w'))
  /-- a watch crosses to the alarm side and makes its begin report (R127) -/
  | asserts {s : State} (id : Fin 128) (w w' : Watch) (used : s.watches[id] = some w) (moves : Transition w (w', .asserts)) :
    Change s (beginContribution w'.alarmLine (s.setWatch id (some w')))
  /-- a watch leaves the alarm side and makes its end report (R127) -/
  | clears {s : State} (id : Fin 128) (w w' : Watch) (used : s.watches[id] = some w) (moves : Transition w (w', .clears)) :
    Change s (endContribution w'.alarmLine (s.setWatch id (some w')))
  /-- a watch is created on a bound stream and a ring that is not CLOSED, by a command that does not wait (R87) -/
  | create {s : State} (id : Fin 128) (w : Watch) (free : s.watches[id] = none) (side : w.state.onAlarmSide = false) (law : WatchLaw w)
    (bound : s.streams[w.stream].isBound = true) (room : s.streams[w.stream].watchList.length < 8)
    (target : s.rings.event[w.target].state ≠ .closed) (phase : s.cmd.phase ≠ .executing) :
    Change s ((s.setWatch id (some w)).setStream w.stream
      { s.streams[w.stream] with watchList := insertId id s.streams[w.stream].watchList })
  /-- a watch off the alarm side is deleted (R96) -/
  | delete {s : State} (id : Fin 128) (w : Watch) (used : s.watches[id] = some w) (side : w.state.onAlarmSide = false) :
    Change s ((s.setWatch id none).setStream w.stream
      { s.streams[w.stream] with watchList := removeId id s.streams[w.stream].watchList })
  | pool {s : State} (p : List PendingEntry) (law : PoolLaw s → PoolLaw (s.setPool p)) : Change s (s.setPool p)
  /-- an OVERRUN record is issued (R145) -/
  | overrun {s : State} (n : Fin 4) (ready : writerReady n s = true) (owed : s.delivery[n].owed = true) :
    Change s (issueRecord n (.overrun s.rings.event[n].lap s.delivery[n].lost s.control.timeBase) s)
  /-- an entry above the current floor is issued (R144) -/
  | entry {s : State} (n : Fin 4) (e : PendingEntry) (ready : writerReady n s = true) (above : s.delivery[n].currentFloor < e.level) :
    Change s (issueRecord n (.entry s.rings.event[n].lap e) (s.setPool (s.pool.erase e)))
  | delivery {s : State} (n : Fin 4) (d : Delivery) (law : DeliveryLaw n s → DeliveryLaw n (s.setDelivery n d)) :
    Change s (s.setDelivery n d)
  /-- a sample ring; only one that no stream uses is closed (R26) -/
  | sampleRing {s : State} (n : Fin 8) (r : SampleRing)
    (closed : r.state = .closed → s.rings.sample[n].state = .closed ∨ sampleRingUsed n s = false)
    (law : SampleRingLaw s.rings.sample[n] → SampleRingLaw r) : Change s (s.setSampleRing n r)
  /-- an event ring; only one that has no user and no write in flight is closed (R29) -/
  | eventRing {s : State} (n : Fin 4) (r : EventRing)
    (closed : r.state = .closed →
      s.rings.event[n].state = .closed ∨ (eventRingUsed n s = false ∧ s.access (eventRequester n) = none))
    (law : EventRingLaw s.rings.event[n] → EventRingLaw r) : Change s (s.setEventRing n r)
  /-- a shadow write becomes owed (R14) -/
  | owed {s : State} : Change s (s.setShadowOwed true)
  /-- an alarm line that keeps its count -/
  | alarm {s : State} (a : Fin 4) (l : AlarmLine) (count : l.count = s.alarms[a].count)
    (law : AlarmLineLaw s.alarms[a] → AlarmLineLaw l) : Change s (s.setAlarm a l)

/-- A sequence of changes. -/
abbrev Changes : State → State → Prop := Relation.ReflTransGen Change

theorem Change.one {s t : State} (h : Change s t) : Changes s t := .single h

/-- What every step of a walk over a list may do, the walk may do. -/
theorem changes_foldl {α : Type} {g : α → State → State} (h : ∀ a s, Changes s (g a s)) (l : List α) (s : State) :
    Changes s (l.foldl (fun t a => g a t) s) := by
  induction l generalizing s with
  | nil => exact .refl
  | cons a l ih => exact (h a s).trans (ih _)

/-- No change touches the control unit. -/
theorem Change.control {s t : State} (h : Change s t) : t.control = s.control := by cases h <;> simp [issueRecord]

/-- No change touches the command engine. -/
theorem Change.cmd {s t : State} (h : Change s t) : t.cmd = s.cmd := by cases h <;> simp [issueRecord]

/-- No change touches an access that is not an event ring's. -/
theorem Change.access {s t : State} (h : Change s t) {q : Requester} (hq : ∀ n, q ≠ eventRequester n) : t.access q = s.access q := by
  cases h with
  | asserts => rw [beginContribution_access]; rfl
  | clears => rw [endContribution_access]; rfl
  | overrun n | entry n => exact handOver_access _ _ _ _ q (hq n)
  | _ => rfl

theorem Changes.control {s t : State} (h : Changes s t) : t.control = s.control := by
  induction h with
  | refl => rfl
  | tail _ h ih => exact h.control.trans ih

theorem Changes.cmd {s t : State} (h : Changes s t) : t.cmd = s.cmd := by
  induction h with
  | refl => rfl
  | tail _ h ih => exact h.cmd.trans ih

theorem Changes.access {s t : State} (h : Changes s t) {q : Requester} (hq : ∀ n, q ≠ eventRequester n) : t.access q = s.access q := by
  induction h with
  | refl => rfl
  | tail _ h ih => exact (h.access hq).trans ih

/-! ## What the changes do not read -/

/-- An update that the hand-over of an event neither reads nor overwrites. -/
structure Aside (f : State → State) : Prop where
  control : ∀ s, (f s).control = s.control
  mau : ∀ s, (f s).mau = s.mau
  rings : ∀ s, (f s).rings = s.rings
  pool : ∀ s, (f s).pool = s.pool
  delivery : ∀ s, (f s).delivery = s.delivery
  setPool : ∀ p s, f (s.setPool p) = (f s).setPool p
  setDelivery : ∀ n d s, f (s.setDelivery n d) = (f s).setDelivery n d
  setAccess : ∀ r a s, f (s.setAccess r a) = (f s).setAccess r a

theorem aside_setStream (i : Fin 64) (x : Stream) : Aside (State.setStream i x) := by constructor <;> intros <;> rfl

theorem aside_setCmd (c : CommandEngine) : Aside (State.setCmd c) := by constructor <;> intros <;> rfl

theorem aside_beginContribution (line : Option (Fin 4)) : Aside (beginContribution line) := by
  cases line <;> constructor <;> intros <;> rfl

theorem aside_endContribution (line : Option (Fin 4)) : Aside (endContribution line) := by
  cases line <;> constructor <;> intros <;> rfl

section
variable {f : State → State}

theorem Aside.issueRecord (h : Aside f) (n : Fin 4) (r : EventRecord) (s : State) : issueRecord n r (f s) = f (issueRecord n r s) := by
  simp only [Machine.issueRecord, handOver, h.setAccess, h.rings, h.mau]

theorem Aside.checkWriter (h : Aside f) (n : Fin 4) (s : State) : checkWriter n (f s) = f (checkWriter n s) := by
  have ready : writerReady n (f s) = writerReady n s := by simp only [writerReady, State.busy, State.access, h.rings, h.control, h.mau]
  have chosen : chosenEntry n (f s) = chosenEntry n s := by simp only [chosenEntry, deliverable, h.pool, h.delivery]
  unfold Machine.checkWriter
  rw [ready, chosen, h.rings, h.delivery, h.control, h.pool]
  split
  · split
    · exact h.issueRecord _ _ _
    · split
      · rw [← h.setPool]; exact h.issueRecord _ _ _
      · rfl
  · rfl

theorem Aside.handEvent (h : Aside f) (e : Event) (s : State) : handEvent e (f s) = f (handEvent e s) := by
  unfold Machine.handEvent
  rw [h.pool, h.delivery]
  split
  · rw [← h.setPool]; exact h.checkWriter _ _
  · split
    · rw [← h.setPool]; exact h.checkWriter _ _
    · rw [← h.setDelivery]; exact h.checkWriter _ _

theorem Aside.handWatchEvent (h : Aside f) (w : Watch) (id : Fin 128) (k : EventKind) (v : Word) (x : Seq) (z : Time) (fb : Bool)
    (s : State) : handWatchEvent w id k v x z fb (f s) = f (handWatchEvent w id k v x z fb s) := by
  unfold Machine.handWatchEvent
  split
  · exact h.handEvent _ _
  · rfl

end

/-- A judgement does not read the stream table. -/
theorem judge_setStream (r : EvalRequest) (id : Fin 128) (i : Fin 64) (x : Stream) (s : State) :
    judge r id (s.setStream i x) = (judge r id s).setStream i x := by
  unfold judge
  rw [State.setStream_watches]
  split
  · rfl
  · rename_i w _
    split
    · rfl
    · have stored (v : Option Watch) : (s.setStream i x).setWatch id v = (s.setWatch id v).setStream i x := rfl
      unfold moveWatch
      dsimp only
      rw [stored]
      split
      · rfl
      · rw [(aside_setStream i x).handWatchEvent]; cases (w.judged r).1.alarmLine <;> rfl
      · rw [(aside_setStream i x).handWatchEvent]; cases (w.judged r).1.alarmLine <;> rfl

/-- An evaluation reads no more of the stream table than the watch list. -/
theorem evaluate_setStream {r : EvalRequest} {i : Fin 64} {x : Stream} {s : State} (list : x.watchList = s.streams[i].watchList) :
    evaluate r (s.setStream i x) = (evaluate r s).setStream i x := by
  have same : (s.setStream i x).streams[r.stream].watchList = s.streams[r.stream].watchList := by
    rw [State.setStream_streams, Fin.getElem_fin, Fin.getElem_fin, Vector.getElem_set]
    split
    · rename_i e; rw [list, Fin.getElem_fin]; simp only [e]
    · rfl
  unfold evaluate
  rw [same]
  generalize s.streams[r.stream].watchList = l
  clear same list
  induction l generalizing s with
  | nil => rfl
  | cons id l ih => rw [List.foldl_cons, List.foldl_cons, judge_setStream]; exact ih

/-! ## Changes of the pool (R133, R134, R137, R138) -/

section
variable {s : State} {n : Fin 4}

theorem poolLaw_congr {t : State} (pool : t.pool = s.pool) (h : PoolLaw s) : PoolLaw t where
  size := pool ▸ h.size
  oneEach := pool ▸ h.oneEach
  level := pool ▸ h.level
  fold := pool ▸ h.fold
  streamHold := pool ▸ h.streamHold

/-- Entries leave the pool. -/
theorem PoolLaw.sublist {p : List PendingEntry} (h : PoolLaw s) (sub : p.Sublist s.pool) : PoolLaw (s.setPool p) where
  size := sub.length_le.trans h.size
  oneEach := h.oneEach.sublist (sub.map _)
  level e he := h.level e (sub.subset he)
  fold e he := h.fold e (sub.subset he)
  streamHold e he := h.streamHold e (sub.subset he)

/-- Entries change in their places. -/
theorem PoolLaw.map {g : PendingEntry → PendingEntry} (h : PoolLaw s) (source : ∀ e, (g e).source = e.source)
    (hold : ∀ e, (g e).hold = e.hold) (level : ∀ e, e.level ≤ (g e).level) (fold : ∀ e, e.foldCount ≤ 255 → (g e).foldCount ≤ 255) :
    PoolLaw (s.setPool (s.pool.map g)) where
  size := by rw [State.setPool_pool, List.length_map]; exact h.size
  oneEach := by
    rw [State.setPool_pool, List.map_map, show PendingEntry.source ∘ g = PendingEntry.source from funext source]; exact h.oneEach
  level e he := by
    obtain ⟨q, hq, rfl⟩ := List.mem_map.1 he
    exact (h.level q hq).trans_le (level q)
  fold e he := by
    obtain ⟨q, hq, rfl⟩ := List.mem_map.1 he
    exact fold q (h.fold q hq)
  streamHold e he i stream := by
    obtain ⟨q, hq, rfl⟩ := List.mem_map.1 he
    rw [hold]
    exact h.streamHold q hq i (source q ▸ stream)

/-- An entry of a source that has none takes a free place (R134). -/
theorem PoolLaw.append {e : PendingEntry} (h : PoolLaw s) (room : s.pool.length < 64) (absent : ∀ q ∈ s.pool, q.source ≠ e.source)
    (level : 0 < e.level) (fold : e.foldCount = 0) (hold : ∀ i, e.source = .stream i → e.hold = false) :
    PoolLaw (s.setPool (s.pool ++ [e])) where
  size := by rw [State.setPool_pool, List.length_append]; exact room
  oneEach := by
    rw [State.setPool_pool, List.map_append, List.nodup_append]
    refine ⟨h.oneEach, List.nodup_singleton _, ?_⟩
    simpa using absent
  level := by simpa [or_imp, forall_and] using ⟨h.level, level⟩
  fold := by simpa [or_imp, forall_and, fold] using h.fold
  streamHold := by
    intro q hq
    obtain hq | hq := List.mem_append.1 hq
    · exact h.streamHold q hq
    · rw [List.mem_singleton.1 hq]; exact hold

/-- What a writer takes is a pending entry above the current floor (R143). -/
theorem mem_of_chosenEntry {e : PendingEntry} (chosen : chosenEntry n s = some e) : e ∈ s.pool ∧ s.delivery[n].currentFloor < e.level := by
  have step (l : List PendingEntry) : ∀ best, l.foldl betterEntry best = some e → e ∈ l ∨ best = some e := by
    induction l with
    | nil => exact fun _ h => .inr h
    | cons a l ih =>
      intro best h
      obtain h | h := ih _ h
      · exact .inl (List.mem_cons_of_mem _ h)
      · unfold betterEntry at h
        split at h
        · exact .inl (by rw [Option.some.inj h]; exact List.mem_cons_self)
        · split at h
          · exact .inl (by rw [Option.some.inj h]; exact List.mem_cons_self)
          · exact .inr h
  obtain mem | none := step _ _ chosen
  · simp only [deliverable, pendingOrder, List.mem_filter, decide_eq_true_eq] at mem
    exact ⟨mem.1.1, mem.2⟩
  · cases none

/-! ## Writers and hand-overs -/

theorem checkWriter_changes (n : Fin 4) (s : State) : Changes s (checkWriter n s) := by
  unfold checkWriter
  split
  · rename_i ready
    split
    · exact (Change.overrun n ready ‹_›).one
    · split
      · rename_i e chosen
        exact (Change.entry n e ready (mem_of_chosenEntry chosen).2).one
      · exact .refl
  · exact .refl

theorem checkWriters_changes (s : State) : Changes s (checkWriters s) := changes_foldl checkWriter_changes _ _

theorem le_maxLevel (a b : Level) : a ≤ maxLevel a b := by rw [maxLevel_eq_max]; exact le_max_left a b

/-- The loss of one event or record (R135, R149). -/
theorem DeliveryLaw.countLoss (h : DeliveryLaw n s) : DeliveryLaw n (s.setDelivery n s.delivery[n].countLoss) := by
  have read : (s.setDelivery n s.delivery[n].countLoss).delivery[n] = s.delivery[n].countLoss := by simp
  have lost : s.delivery[n].countLoss.lost = min 65535 (s.delivery[n].lost + 1) := rfl
  constructor
  · rw [read]; exact h.increasing
  · rw [read]; exact h.aboveBase
  · rw [read]; exact h.holdAbove
  · intro lap k time inFlight
    have := h.carried lap k time inFlight
    have := h.lost
    rw [read, lost]
    omega
  · rw [read, lost]
    exact ⟨fun _ => by omega, fun _ => rfl⟩
  · rw [read, lost]; omega
  · exact h.closed

/-- An event of a level above 0 is handed over (R132 to R135). -/
theorem handEvent_changes {e : Event} (level : 0 < e.level) (hold : ∀ i, e.source = .stream i → e.hold = false) (s : State) :
    Changes s (handEvent e s) := by
  unfold handEvent
  split
  · refine .trans (Change.pool _ fun h => h.map ?_ ?_ ?_ ?_).one (checkWriter_changes _ _) <;> intro q
    · split <;> rfl
    · split <;> rfl
    · split
      · exact le_maxLevel _ _
      · exact le_rfl
    · split
      · exact fun _ => Nat.min_le_left _ _
      · exact id
  · rename_i absent
    split
    · rename_i room
      exact .trans (Change.pool _ fun h => h.append room (pendingOf_eq_none.1 absent) level rfl hold).one (checkWriter_changes _ _)
    · exact .trans (Change.delivery _ _ fun h => h.countLoss).one (checkWriter_changes _ _)

theorem handWatchEvent_changes (w : Watch) (id : Fin 128) (k : EventKind) (v : Word) (x : Seq) (z : Time) (fb : Bool) (s : State) :
    Changes s (handWatchEvent w id k v x z fb s) := by
  unfold handWatchEvent
  split
  · exact handEvent_changes ‹_› (by rintro i ⟨⟩) _
  · exact .refl

theorem withdraw_changes (x : Source) (s : State) : Changes s (withdraw x s) :=
  (Change.pool _ fun h => h.sublist List.filter_sublist).one

theorem raiseLevel_changes (x : Source) (l : Level) (s : State) : Changes s (raiseLevel x l s) := by
  unfold raiseLevel
  split
  · refine .trans (Change.pool _ fun h => h.map ?_ ?_ ?_ ?_).one (checkWriter_changes _ _) <;> intro q
    · split <;> rfl
    · split <;> rfl
    · split
      · exact le_maxLevel _ _
      · exact le_rfl
    · split <;> exact id
  · exact .refl

end

/-! ## Watches -/

section
variable {s : State}

/-- A watch moves: the event it hands over may as well come after its report. -/
theorem moveWatch_changes {id : Fin 128} {w w' : Watch} {c : Crossing} (used : s.watches[id] = some w) (moves : Transition w (w', c))
    (v : Word) (x : Seq) (z : Time) (fb : Bool) : Changes s (moveWatch id w' c v x z fb s) := by
  unfold moveWatch
  cases c with
  | stays => exact (Change.watch id w w' used moves).one
  | asserts =>
    dsimp only
    rw [← (aside_beginContribution _).handWatchEvent]
    exact .trans (Change.asserts id w w' used moves).one (handWatchEvent_changes _ _ _ _ _ _ _ _)
  | clears =>
    dsimp only
    rw [← (aside_endContribution _).handWatchEvent]
    exact .trans (Change.clears id w w' used moves).one (handWatchEvent_changes _ _ _ _ _ _ _ _)

theorem judge_changes (r : EvalRequest) (id : Fin 128) (s : State) : Changes s (judge r id s) := by
  unfold judge
  split
  · exact .refl
  · split
    · exact .refl
    · exact moveWatch_changes ‹_› (Watch.judged_transition r) _ _ _ _

theorem evaluate_changes (r : EvalRequest) (s : State) : Changes s (evaluate r s) := changes_foldl (judge_changes r) _ _

theorem breakWatch_changes (id : Fin 128) (s : State) : Changes s (breakWatch id s) := by
  unfold breakWatch
  split
  · exact .refl
  · exact (Change.watch id _ _ ‹_› Watch.breakRun_transition).one

theorem breakStream_changes (i : Fin 64) (s : State) : Changes s (breakStream i s) := changes_foldl breakWatch_changes _ _

end

end Sys2Proof.Machine
end

section
/-!
PROOFS. What a processed sample, a silence expiry and the owner of a command do, as sequences of changes: one lemma per operation, in the
order of the operations.
-/

namespace Sys2Proof.Machine

/-! ## Samples (R55 to R61) -/

section
variable {s : State} {x : Stream}

/-- A stream in service that is set LIVE gets the deadline R63 gives it. -/
theorem StreamLaw.live (h : StreamLaw x) (inService : x.inService = true) (t : Time) :
    StreamLaw { x.setDeadline t with state := .live } := by
  rw [Stream.setDeadline_eq]
  refine ⟨?_, fun held => ?_, h.counters⟩
  · have before := h.deadline
    rw [inService] at before
    by_cases timeout : x.timeout = 0
    · simpa [timeout, Stream.inService] using before
    · rw [if_neg timeout]; simpa [Stream.inService] using timeout
  · have := h.held held
    rw [Stream.inService_iff, this] at inService
    simp at inService

theorem Stream.isBound_of_inService (h : x.inService = true) : x.isBound = true := by
  rw [Stream.isBound_iff]
  obtain e | e := Stream.inService_iff.1 h <;> rw [e] <;> decide

/-- Setting a deadline keeps the binding. -/
theorem Stream.setDeadline_binding (t : Time) (x : Stream) : SameBinding x (x.setDeadline t) := by
  rw [Stream.setDeadline_eq]; exact ⟨rfl, rfl, rfl, rfl⟩

theorem Stream.live_binding (inService : x.inService = true) (t : Time) :
    SameBinding x { x.setDeadline t with state := .live } := by
  have h := x.setDeadline_binding t
  exact ⟨(Stream.isBound_of_inService inService).symm, h.sampleRing, h.eventRing, h.watchList⟩

theorem goodSample_changes {i : Fin 64} (inService : s.streams[i].inService = true) (r : SampleRecord) :
    Changes s (goodSample i r s) := by
  unfold goodSample
  exact .tail (.trans (Change.stream i _ (Stream.live_binding inService _) fun h => h.live inService _).one (evaluate_changes _ _))
    (Change.stream i _ ⟨rfl, rfl, rfl, rfl⟩ fun h => { h with })

theorem badSample_changes {i : Fin 64} (inService : s.streams[i].inService = true) : Changes s (badSample i s) := by
  unfold badSample
  refine .tail (.trans (Change.stream i _ ?_ fun h => ?_).one (breakStream_changes _ _))
    (Change.stream i _ ⟨rfl, rfl, rfl, rfl⟩ fun h => { h with })
  · exact { Stream.live_binding inService s.control.timeBase with }
  · have live := h.live inService s.control.timeBase
    exact { live with counters := ⟨live.counters.1, live.counters.2.1, Nat.min_le_left _ _, live.counters.2.2.2⟩ }

theorem silentSample_changes {i : Fin 64} (silent : s.streams[i].state = .silent) (r : SampleRecord) :
    Changes s (silentSample i r s) := by
  unfold silentSample
  dsimp only
  split
  · exact .single (.stream i _ ⟨rfl, rfl, rfl, rfl⟩ fun h =>
      { h with counters := ⟨h.counters.1, h.counters.2.1, Nat.min_le_left _ _, h.counters.2.2.2⟩ })
  · exact .single (.stream i _ ⟨rfl, rfl, rfl, rfl⟩ fun h =>
      { h with held := fun _ => silent, counters := ⟨h.counters.1, h.counters.2.1, h.counters.2.2.1, Nat.min_le_left _ _⟩ })

theorem acceptSample_changes {i : Fin 64} (bound : s.streams[i].isBound = true) (gap : Bool) (r : SampleRecord) :
    Changes s (acceptSample i gap r s) := by
  unfold acceptSample
  split
  · rename_i inService
    split
    · exact badSample_changes inService
    · split
      · exact (breakStream_changes i s).trans (goodSample_changes (by rw [breakStream_streams]; exact inService) r)
      · exact goodSample_changes inService r
  · rename_i outOfService
    refine silentSample_changes ?_ r
    rw [Stream.isBound_iff] at bound
    rw [Stream.inService_iff] at outOfService
    cases state : s.streams[i].state <;> simp_all

theorem routedSample_changes {i : Fin 64} (bound : s.streams[i].isBound = true) (r : SampleRecord) :
    Changes s (routedSample i r s) := by
  have kept (x : Stream) (state : x.state = s.streams[i].state) : (s.setStream i x).streams[i].isBound = true := by
    simpa [Stream.isBound, state] using bound
  unfold routedSample
  dsimp only
  split
  · exact .single (.stream i _ ⟨rfl, rfl, rfl, rfl⟩ fun h =>
      { h with counters := ⟨h.counters.1, Nat.min_le_left _ _, h.counters.2.2⟩ })
  · refine .head (.stream i _ ?_ ?_) (acceptSample_changes (kept _ ?_) _ _)
    · exact ⟨rfl, rfl, rfl, rfl⟩
    · exact fun h => { h with }
    · rfl
  · refine .head (.stream i _ ?_ ?_) (acceptSample_changes (kept _ ?_) _ _)
    · exact ⟨rfl, rfl, rfl, rfl⟩
    · exact fun h => { h with counters := ⟨Nat.min_le_left _ _, h.counters.2⟩ }
    · rfl

theorem processRecord_changes (n : Fin 8) (r : SampleRecord) (s : State) : Changes s (processRecord n r s) := by
  unfold processRecord
  split
  · rename_i i route
    refine routedSample_changes ?_ r
    unfold routeOf at route
    split at route
    · split at route
      · rename_i j _ found
        obtain rfl := Option.some.inj route
        exact found.1
      · cases route
    · cases route
  · exact .single (.sampleRing n _ .inl id)

theorem processRecords_changes (n : Fin 8) (records : List SampleRecord) (s : State) : Changes s (processRecords n records s) :=
  changes_foldl (processRecord_changes n) _ _

/-- An index advanced stays below the slot count (R4). -/
theorem Descriptor.advance_lt {d : Descriptor} {i : Nat} (k : Nat) (h : i < d.slots) : d.advance i k < d.slots :=
  Nat.mod_lt _ (by omega)

theorem takeSamples_changes (n : Fin 8) (records : List (Vector Byte 8)) (s : State) : Changes s (takeSamples n records s) := by
  unfold takeSamples
  split
  · refine .trans (processRecords_changes _ _ _) (.tail (.single (.sampleRing n _ ?_ fun h => ?_)) .owed)
    · exact .inl
    refine ⟨fun notClosed => ?_, h.2⟩
    obtain ⟨geometry, producer, consumer⟩ := h.1 notClosed
    exact ⟨geometry, producer, Descriptor.advance_lt _ consumer⟩
  · exact .refl

/-! ## Faulted rings (R5) -/

theorem SampleRing.faultWith_change {n : Fin 8} {cause : RingCause} (named : cause ≠ .noCause) (s : State) :
    Change s (s.setSampleRing n (s.rings.sample[n].faultWith cause)) := by
  refine .sampleRing n _ (fun closed => .inl ?_) fun h => ?_ <;> unfold SampleRing.faultWith at *
  · split at closed
    · cases closed
    · exact closed
  · split
    · exact ⟨fun _ => h.1 (by simp_all), by simpa using named⟩
    · exact h

theorem EventRing.faultWith_change {n : Fin 4} {cause : RingCause} (named : cause ≠ .noCause) (s : State) :
    Change s (s.setEventRing n (s.rings.event[n].faultWith cause)) := by
  refine .eventRing n _ (fun closed => .inl ?_) fun h => ?_ <;> unfold EventRing.faultWith at *
  · split at closed
    · cases closed
    · exact closed
  · split
    · exact ⟨fun _ => h.1 (by simp_all), by simpa using named⟩
    · exact h

/-! ## Silence (R64 to R66) -/

theorem substituteHandOff_changes (i : Fin 64) (s : State) : Changes s (substituteHandOff i s) := by
  unfold substituteHandOff
  split
  · exact evaluate_changes _ _
  · exact .refl

theorem expire_changes {i : Fin 64} (inService : s.streams[i].inService = true) : Changes s (expire i s) := by
  unfold expire
  have silent : Changes s (s.setStream i { s.streams[i] with state := .silent, deadline := none, held := false }) :=
    .single (.stream i _ ⟨(Stream.isBound_of_inService inService).symm, rfl, rfl, rfl⟩ fun h =>
      { h with deadline := by simp [Stream.inService], held := by rintro ⟨⟩ })
  refine .trans ?_ (substituteHandOff_changes _ _)
  split
  · refine silent.trans (handEvent_changes ?_ ?_ _)
    · assumption
    · exact fun _ _ => rfl
  · exact silent

theorem expireIfDue_changes (i : Fin 64) (s : State) : Changes s (expireIfDue i s) := by
  unfold expireIfDue
  split
  · rename_i due
    refine expire_changes ?_
    simp only [expiryDue, Bool.and_eq_true] at due
    exact due.1.2
  · exact .refl

theorem takeDueExpiries_changes (s : State) : Changes s (takeDueExpiries s) := changes_foldl expireIfDue_changes _ _

end

/-! ## The owners of the commands -/

/-- What a done answer leaves is made of changes. -/
def Answer.changes (s : State) : Answer → Prop
  | .done _ _ u => Changes s u
  | .waits => True

section
variable {s : State}

/-- A descriptor that starts anew obeys R2 and R3. -/
theorem DescriptorLaw.fresh {lo hi : Nat} {base : Addr} {slots : Nat} (pos : 0 < lo) (good : validGeometry lo hi base slots = true) :
    DescriptorLaw lo hi { state := .opened, base := base, slots := slots, producer := 0, consumer := 0 } := by
  intro _
  have : lo ≤ slots := by simp only [validGeometry, Bool.and_eq_true, decide_eq_true_eq] at good; exact good.1.1.2
  exact ⟨good, by dsimp only; omega, by dsimp only; omega⟩

theorem sampleOpened_law {base : Addr} {slots : Nat} (good : validGeometry 16 4096 base slots = true) :
    SampleRingLaw (SampleRing.openedWith base slots) :=
  ⟨DescriptorLaw.fresh (by decide) good, by simp [SampleRing.openedWith]⟩

theorem eventOpened_law {base : Addr} {slots : Nat} {notify : Level} (good : validGeometry 8 1024 base slots = true) :
    EventRingLaw (EventRing.openedWith base slots notify) :=
  ⟨DescriptorLaw.fresh (by decide) good, by simp [EventRing.openedWith]⟩

theorem sampleClosed_law (r : SampleRing) : SampleRingLaw { r with state := .closed, cause := .noCause } :=
  ⟨fun h => absurd rfl h, by simp⟩

theorem eventClosed_law (r : EventRing) : EventRingLaw { r with state := .closed, cause := .noCause, attention := false } :=
  ⟨fun h => absurd rfl h, by simp⟩

theorem openSampleRing_changes (index : BitVec 16) (base : Addr) (slots : BitVec 16) (s : State) :
    (openSampleRing index base slots s).changes s := by
  unfold openSampleRing
  split
  · exact .refl
  · split
    · exact .refl
    · split
      · exact .refl
      · rename_i good
        split
        · trivial
        · exact .tail (Change.sampleRing _ _ (by rintro ⟨⟩) fun _ => sampleOpened_law (Bool.not_eq_false _ ▸ good)).one .owed

theorem closeSampleRing_changes (index : BitVec 16) (s : State) : (closeSampleRing index s).changes s := by
  unfold closeSampleRing
  split
  · exact .refl
  · split
    · exact .refl
    · split
      · exact .refl
      · rename_i unused
        split
        · trivial
        · exact (Change.sampleRing _ _ (fun _ => .inr (Bool.eq_false_of_not_eq_true unused)) fun _ => sampleClosed_law _).one

/-- With no write in flight, the law of a delivery state is about the state alone. -/
theorem DeliveryLaw.ofQuiet {n : Fin 4} {t : State} (quiet : t.access (eventRequester n) = none)
    (increasing : t.delivery[n].floorStack.Pairwise (· < ·)) (aboveBase : ∀ l ∈ t.delivery[n].floorStack, t.delivery[n].baseFloor < l)
    (owed : t.delivery[n].owed = true ↔ 0 < t.delivery[n].lost) (lost : t.delivery[n].lost ≤ 65535) : DeliveryLaw n t := by
  have noRecord (r : EventRecord) : recordInFlight n t ≠ some r := by unfold recordInFlight; rw [quiet]; simp
  exact ⟨increasing, aboveBase, fun r e => absurd e (noRecord r), fun _ _ _ e => absurd e (noRecord _), owed, lost, fun _ => quiet⟩

/-- A fresh delivery state with no write in flight (R157). -/
theorem DeliveryLaw.fresh {n : Fin 4} {floor : Level} (quiet : s.access (eventRequester n) = none) :
    DeliveryLaw n (s.setDelivery n (Delivery.openedWith floor)) := by
  have read : (s.setDelivery n (Delivery.openedWith floor)).delivery[n] = Delivery.openedWith floor := by simp
  refine .ofQuiet quiet ?_ ?_ ?_ ?_ <;> rw [read] <;> simp [Delivery.openedWith]

theorem finishOpenEventRing_changes {n : Fin 4} {base : Addr} {slots : Nat} (good : validGeometry 8 1024 base slots = true)
    (notify floor : Level) (s : State) : (finishOpenEventRing n base slots notify floor s).changes s := by
  have opened (u : State) : Changes u (u.setEventRing n (EventRing.openedWith base slots notify)) :=
    (Change.eventRing _ _ (by rintro ⟨⟩) fun _ => eventOpened_law good).one
  unfold finishOpenEventRing
  refine .trans ?_ (checkWriter_changes _ _)
  split
  · rename_i closed
    exact .trans (Change.delivery n (Delivery.openedWith floor) fun h => .fresh (h.closed closed)).one (opened _)
  · exact opened s

theorem openEventRing_changes (index : BitVec 16) (base : Addr) (slots : BitVec 16) (notify floor : Byte) (s : State) :
    (openEventRing index base slots notify floor s).changes s := by
  unfold openEventRing
  split
  · exact .refl
  · split
    · exact .refl
    · split
      · split
        · exact .refl
        · rename_i good
          split
          · trivial
          · exact finishOpenEventRing_changes (Bool.not_eq_false _ ▸ good) _ _ _
      · exact .refl

theorem closeEventRing_changes (index : BitVec 16) (s : State) : (closeEventRing index s).changes s := by
  unfold closeEventRing
  split
  · exact .refl
  · split
    · exact .refl
    · split
      · exact .refl
      · rename_i unused
        split
        · trivial
        · rename_i quiet
          rw [State.busy_def, Bool.not_eq_true, Option.isSome_eq_false_iff, Option.isNone_iff_eq_none] at quiet
          exact .tail (Change.eventRing _ _ (fun _ => .inr ⟨Bool.eq_false_of_not_eq_true unused, quiet⟩) fun _ => eventClosed_law _).one
            (Change.delivery _ _ fun _ => .fresh quiet)

theorem queryRing_changes (index : BitVec 16) (flags : Byte) (s : State) : (queryRing index flags s).changes s := by
  unfold queryRing
  split
  case h_4 n _ =>
    unfold querySampleRing Answer.changes
    dsimp only
    split
    · exact .single (.sampleRing n _ .inl id)
    · exact .refl
  all_goals exact .refl

theorem boundWith_law (n : Fin 8) (e : Fin 4) (l : Level) (timeout : BitVec 16) (fallback : Option Word) (t : Time) :
    StreamLaw (Stream.boundWith n e l timeout fallback t) := by
  unfold Stream.boundWith
  rw [Stream.setDeadline_eq]
  refine ⟨?_, by rintro ⟨⟩, by simp [Stream.atReset]⟩
  by_cases h : timeout = 0 <;> simp [h, Stream.inService, Stream.atReset]

theorem bindStream_changes (index : BitVec 16) (p : BindParams) {s : State} (phase : s.cmd.phase ≠ .executing) :
    (bindStream index p s).changes s := by
  unfold bindStream
  split
  · exact .refl
  · rename_i i _
    split
    · exact .refl
    · rename_i unbound
      split
      · rename_i n e l fb _ _ _ _
        split
        · exact .refl
        · rename_i sampleOpen
          split
          · exact .refl
          · rename_i eventOpen
            have binding := Stream.setDeadline_binding s.control.timeBase { Stream.atReset with
              state := .bound, sampleRing := n, eventRing := e, level := l, timeout := p.timeout, fallback := fb }
            exact .single (.bind i _ (Bool.eq_false_of_not_eq_true unbound) binding.bound binding.watchList binding.sampleRing
              sampleOpen binding.eventRing eventOpen (boundWith_law n e l _ fb _) phase)
      · exact .refl

theorem unbindStream_changes (index : BitVec 16) (s : State) : (unbindStream index s).changes s := by
  unfold unbindStream
  split
  · exact .refl
  · rename_i i _
    split
    · exact .refl
    · split
      · exact .refl
      · rename_i unwatched
        refine .tail (withdraw_changes _ _) (Change.unbind i _ (not_not.1 unwatched) rfl (not_not.1 unwatched) fun h => ?_)
        exact { h with deadline := by simp [Stream.unbind, Stream.inService], held := by rintro ⟨⟩ }

/-- A SILENT stream that is taken back into service (R72). -/
theorem StreamLaw.revived {x : Stream} (silent : x.state = .silent) {st : StreamState} (service : st = .bound ∨ st = .live)
    (t : Time) (previous : Option Word) (h : StreamLaw x) :
    StreamLaw { x.setDeadline t with state := st, previous := previous, baseline := none, held := false } := by
  have none : x.deadline = none := by
    have := h.deadline
    rw [Stream.inService_iff, silent] at this
    simpa using this
  rw [Stream.setDeadline_eq]
  refine ⟨?_, by rintro ⟨⟩, h.counters⟩
  by_cases timeout : x.timeout = 0
  · simp [timeout, none]
  · rw [if_neg timeout]
    exact ⟨fun _ => ⟨Stream.inService_iff.2 service, timeout⟩, fun _ => rfl⟩

theorem reviveNow_changes {i : Fin 64} (silent : s.streams[i].state = .silent) : Changes s (reviveNow i s) := by
  have revived {u : State} (same : u.streams = s.streams) {st : StreamState} (service : st = .bound ∨ st = .live)
      (previous : Option Word) (t : Time) :
      Change u (u.setStream i
        { s.streams[i].setDeadline t with state := st, previous := previous, baseline := none, held := false }) := by
    have kept := s.streams[i].setDeadline_binding t
    have bound : st ≠ .unbound := by obtain e | e := service <;> rw [e] <;> decide
    refine .stream i _ ?_ ?_ <;> rw [same]
    · refine ⟨?_, kept.sampleRing, kept.eventRing, kept.watchList⟩
      have before : s.streams[i].isBound = true := Stream.isBound_iff.2 (by rw [silent]; decide)
      rw [before]
      exact Stream.isBound_iff.2 bound
    · exact fun h => h.revived silent service t previous
  have broken : Changes s (runsBroken s.streams[i].watchList s) := breakStream_eq i s ▸ breakStream_changes i s
  cases held : s.streams[i].held with
  | false =>
    have notHeld : (s.streams[i].setDeadline s.control.timeBase).held = false := by rw [Stream.setDeadline_eq]; exact held
    rw [reviveNow_notHeld held]
    simp only [notHeld]
    exact broken.tail (revived (runsBroken_streams _ _) (.inl rfl) none _)
  | true =>
    rw [reviveNow_held held, evaluate_setStream, State.setStream_setStream]
    · exact (broken.trans (evaluate_changes _ _)).tail (revived (by rw [evaluate_streams, runsBroken_streams]) (.inr rfl) _ _)
    · rw [runsBroken_streams]

theorem reviveStream_changes (index : BitVec 16) (s : State) : (Machine.reviveStream index s).changes s := by
  unfold Machine.reviveStream
  split
  · exact .refl
  · split
    · exact .refl
    · split
      · exact .refl
      · exact reviveNow_changes (not_not.1 ‹_›)

theorem queryStream_changes (index : BitVec 16) (flags : Byte) (s : State) : (queryStream index flags s).changes s := by
  unfold queryStream
  split
  · exact .refl
  · unfold Answer.changes
    dsimp only
    split
    · exact .single (.stream _ _ ⟨rfl, rfl, rfl, rfl⟩ fun h => { h with counters := by simp [Stream.clearCounters] })
    · exact .refl

/-- A command on a watch in use changes what its action changes. -/
theorem onWatch_changes {index : BitVec 16} {act : Fin 128 → Watch → Answer}
    (h : ∀ id w, s.watches[id] = some w → (act id w).changes s) : (onWatch index s act).changes s := by
  unfold onWatch
  split
  · exact .refl
  · split
    · exact .refl
    · exact h _ _ ‹_›

/-- A new watch obeys its law and is DISARMED (R80, R84, R88). -/
theorem newWatch_law {p : WatchParams} {w : Watch} (made : newWatch p = some w) : WatchLaw w ∧ w.state = .disarmed := by
  obtain ⟨i, kind, n, line, statics, good⟩ := good_of_newWatch made
  rw [newWatch_of_good (l := ⟨p.level.toNat, good.1⟩) statics good rfl] at made
  obtain rfl := Option.some.inj made
  obtain ⟨-, na, nc, -⟩ := good
  exact ⟨⟨na, nc, by rintro ⟨⟩, by rintro ⟨⟩, fun _ _ => rfl, by rintro ⟨⟩, Nat.zero_le _⟩, rfl⟩

theorem createWatch_changes (index : BitVec 16) (p : WatchParams) {s : State} (phase : s.cmd.phase ≠ .executing) :
    (Machine.createWatch index p s).changes s := by
  unfold Machine.createWatch
  split
  · exact .refl
  · split
    · exact .refl
    · rename_i free
      split
      · exact .refl
      · rename_i w made
        dsimp only
        split
        · exact .refl
        · rename_i bound
          split
          · exact .refl
          · rename_i room
            split
            · exact .refl
            · rename_i target
              obtain ⟨law, disarmed⟩ := newWatch_law made
              exact (Change.create _ w (by simpa using free) (by rw [disarmed]; rfl) law (by simpa using bound)
                (Nat.lt_of_not_le room) target phase).one

/-- New fields in range and a run break keep the law of a watch (R93). -/
theorem withFields_transition {w : Watch} {p : WatchParams} {c : Changeable} (fields : changeableFields w.kind p = some c) :
    Transition w ((w.withFields c).breakRun, .stays) := by
  have good := good_of_changeableFields fields
  rw [changeableFields_of_good (l := ⟨p.level.toNat, good.1⟩) good rfl] at fields
  obtain rfl := Option.some.inj fields
  obtain ⟨-, na, nc, -⟩ := good
  rw [Watch.breakRun_eq]
  refine ⟨⟨rfl, rfl, rfl⟩, ?_, fun h => ⟨na, nc, ?_, ?_, fun _ _ => rfl, ?_, h.assertCount⟩⟩
  all_goals cases state : w.state
  all_goals simp [brokenRun, Watch.withFields, state, Crossing.agrees, WatchState.onAlarmSide]
  exact h.held state

theorem modifyWatch_changes (index : BitVec 16) (p : WatchParams) (s : State) : (Machine.modifyWatch index p s).changes s := by
  refine onWatch_changes fun id w used => ?_
  split
  · exact .refl
  · rename_i c fields
    exact .trans (Change.watch id w _ used (withFields_transition fields)).one (raiseLevel_changes _ _ _)

theorem deleteWatch_changes (index : BitVec 16) (s : State) : (deleteWatch index s).changes s := by
  refine onWatch_changes fun id w used => ?_
  split
  · exact .refl
  · rename_i disarmed
    exact (Change.delete id w used (by rw [not_not.1 disarmed]; rfl)).one

/-- A watch taken to a side it is on, with no run and no acknowledgement (R89, R91). -/
theorem Watch.cleared_transition {w : Watch} {st : WatchState} {c : Crossing} (side : c.agrees w.state.onAlarmSide st.onAlarmSide)
    (rest : st = .clear ∨ st = .disarmed) : Transition w ({ w.settle st with acknowledged := false }, c) := by
  have settled : Transition w (w.settle st, c) := by obtain rfl | rfl := rest <;> exact Watch.settle_transition side
  refine ⟨⟨rfl, rfl, rfl⟩, side, fun h => { settled.law h with held := fun e => ?_ }⟩
  have : st = .held := e
  simp [this] at rest

theorem armWatch_changes (index : BitVec 16) (s : State) : (armWatch index s).changes s := by
  refine onWatch_changes fun id w used => ?_
  split
  · exact .refl
  · rename_i disarmed
    exact (Change.watch id w _ used (Watch.cleared_transition (by rw [not_not.1 disarmed]; rfl) (.inl rfl))).one

theorem disarmWatch_changes (index : BitVec 16) (s : State) : (disarmWatch index s).changes s := by
  refine onWatch_changes fun id w used => ?_
  split
  · exact .refl
  · unfold Answer.changes
    dsimp only
    split
    · rename_i side
      have report : (withdraw (.watch id) (endContribution w.alarmLine s)).setWatch id
          (some { w.settle .disarmed with acknowledged := false }) =
            withdraw (.watch id) (endContribution w.alarmLine
              (s.setWatch id (some { w.settle .disarmed with acknowledged := false }))) := by
        cases w.alarmLine <;> rfl
      rw [report]
      exact .trans (Change.clears id w _ used (Watch.cleared_transition (c := .clears) ⟨side, rfl⟩ (.inr rfl))).one
        (withdraw_changes _ _)
    · rename_i side
      have off : Crossing.stays.agrees w.state.onAlarmSide WatchState.disarmed.onAlarmSide := 
        (Bool.eq_false_of_not_eq_true side).symm
      exact .trans (Change.watch id w _ used (Watch.cleared_transition off (.inr rfl))).one (withdraw_changes _ _)

theorem Watch.acknowledge_transition {w : Watch} (notHeld : w.state ≠ .held) :
    Transition w ({ w with acknowledged := true }, .stays) :=
  ⟨⟨rfl, rfl, rfl⟩, rfl, fun h => { h with held := fun e => absurd e notHeld }⟩

theorem ackWatch_changes (index : BitVec 16) (s : State) : (Machine.ackWatch index s).changes s := by
  refine onWatch_changes fun id w used => ?_
  split
  case h_1 state | h_2 state => exact (Change.watch id w _ used (Watch.acknowledge_transition (by simp [state]))).one
  case h_3 state => exact moveWatch_changes used (Watch.settle_transition (c := .clears) ⟨by rw [state]; rfl, rfl⟩) _ _ _ _
  all_goals exact .refl

/-! ## Floors and alarm lines -/

/-- A level of the stack above which nothing is stands above the floor the levels below it give (R141). -/
theorem Delivery.currentFloor_dropLast {d : Delivery} (increasing : d.floorStack.Pairwise (· < ·))
    (aboveBase : ∀ l ∈ d.floorStack, d.baseFloor < l) :
    Delivery.currentFloor { d with floorStack := d.floorStack.dropLast } ≤ d.currentFloor := by
  unfold Delivery.currentFloor
  obtain empty | ⟨l, top, stack⟩ := List.eq_nil_or_concat' d.floorStack
  · rw [empty]; rfl
  · rw [stack] at increasing aboveBase ⊢
    rw [List.dropLast_concat, List.getLast?_concat, Option.getD_some]
    cases last : l.getLast? with
    | none => exact (aboveBase top (by simp)).le
    | some k =>
      obtain ⟨-, -, below⟩ := List.pairwise_append.1 increasing
      exact (below k (List.mem_of_getLast? last) top (by simp)).le

/-- The most recent level leaves the stack (R152). -/
theorem DeliveryLaw.dropLast {n : Fin 4} (h : DeliveryLaw n s) :
    DeliveryLaw n (s.setDelivery n { s.delivery[n] with floorStack := s.delivery[n].floorStack.dropLast }) := by
  have read (d : Delivery) : (s.setDelivery n d).delivery[n] = d := by simp
  constructor
  · rw [read]; exact h.increasing.sublist (List.dropLast_sublist _)
  · rw [read]; exact fun l hl => h.aboveBase l (List.mem_of_mem_dropLast hl)
  · rw [read]; exact fun r hr hold => (Delivery.currentFloor_dropLast h.increasing h.aboveBase).trans_lt (h.holdAbove r hr hold)
  · rw [read]; exact h.carried
  · rw [read]; exact h.owed
  · rw [read]; exact h.lost
  · exact h.closed

theorem release_changes (index : BitVec 16) (s : State) : (release index s).changes s := by
  unfold release
  split
  · exact .refl
  · split
    · exact .refl
    · split
      · exact .refl
      · exact .trans (Change.delivery _ _ fun h => h.dropLast).one (checkWriter_changes _ _)

/-- A base floor under an empty stack, with no hold record in flight (R154). -/
theorem DeliveryLaw.baseFloor {n : Fin 4} (h : DeliveryLaw n s) (empty : s.delivery[n].floorStack = [])
    (noHold : holdWriteInFlight n s ≠ true) (l : Level) : DeliveryLaw n (s.setDelivery n { s.delivery[n] with baseFloor := l }) := by
  have read (d : Delivery) : (s.setDelivery n d).delivery[n] = d := by simp
  constructor
  · rw [read]; exact h.increasing
  · rw [read]; dsimp only; rw [empty]; exact fun _ hl => absurd hl List.not_mem_nil
  · exact fun r hr hold => absurd (holdWriteInFlight_iff.2 ⟨r, hr, hold⟩) noHold
  · rw [read]; exact h.carried
  · rw [read]; exact h.owed
  · rw [read]; exact h.lost
  · exact h.closed

theorem setFloor_changes (index : BitVec 16) (level : Byte) (s : State) : (setFloor index level s).changes s := by
  unfold setFloor
  split
  · split
    · exact .refl
    · split
      · exact .refl
      · rename_i free
        obtain ⟨empty, noHold⟩ := not_or.1 free
        exact .trans (Change.delivery _ _ fun h => h.baseFloor (not_not.1 empty) noHold _).one (checkWriter_changes _ _)
  · exact .refl

/-- A line set to a mode (R166). -/
theorem AlarmLineLaw.setMode {l : AlarmLine} (h : AlarmLineLaw l) (m : AlarmMode) : AlarmLineLaw (l.setMode m) := by
  obtain ⟨follow, latch⟩ := h
  cases mode : l.mode <;> cases m <;> simp_all [AlarmLineLaw, AlarmLine.setMode]

theorem configureAlarm_changes (index : BitVec 16) (mode : Byte) (s : State) : (configureAlarm index mode s).changes s := by
  unfold configureAlarm
  split
  · exact .single (.alarm _ _ rfl fun h => h.setMode _)
  · exact .refl

theorem releaseAlarm_changes (index : BitVec 16) (s : State) : (releaseAlarm index s).changes s := by
  unfold releaseAlarm
  split
  · exact .refl
  · split
    · exact .refl
    · rename_i latch
      split
      · exact .refl
      · rename_i inactive
        refine .single (.alarm _ _ rfl fun _ => ⟨fun follow => absurd ((not_not.1 latch).symm.trans follow) (by decide), fun _ active => ?_⟩)
        exact absurd (not_not.1 inactive) (Nat.pos_iff_ne_zero.1 active)

/-- What the owner of a command leaves is made of changes (R38). -/
theorem perform_changes (index : BitVec 16) (flags : Byte) (q : Request) {s : State} (phase : s.cmd.phase ≠ .executing) :
    (perform index flags q s).changes s := by
  cases q with
  | nop => exact .refl
  | unknown code => exact .refl
  | openSampleRing base slots => exact openSampleRing_changes _ _ _ _
  | closeSampleRing => exact closeSampleRing_changes _ _
  | openEventRing base slots notify floor => exact openEventRing_changes _ _ _ _ _ _
  | closeEventRing => exact closeEventRing_changes _ _
  | queryRing => exact queryRing_changes _ _ _
  | bindStream p => exact bindStream_changes _ _ phase
  | unbindStream => exact unbindStream_changes _ _
  | reviveStream => exact reviveStream_changes _ _
  | queryStream => exact queryStream_changes _ _ _
  | createWatch p => exact createWatch_changes _ _ phase
  | modifyWatch p => exact modifyWatch_changes _ _ _
  | deleteWatch => exact deleteWatch_changes _ _
  | armWatch => exact armWatch_changes _ _
  | disarmWatch => exact disarmWatch_changes _ _
  | ackWatch => exact ackWatch_changes _ _
  | queryWatch => exact onWatch_changes fun _ _ _ => .refl
  | release => exact release_changes _ _
  | setFloor level => exact setFloor_changes _ _ _
  | configureAlarm mode => exact configureAlarm_changes _ _ _
  | releaseAlarm => exact releaseAlarm_changes _ _

end

end Sys2Proof.Machine
end

section
/-!
PROOFS. Command records and their bytes (O5): a little-endian field reads back where it was written (R199), and a command record is given
back by its bytes and a request by its record (R201, R202).
-/

namespace Sys2Proof.Machine

/-! ## Fields read back (R199) -/

theorem le16_append (before after : List Byte) (x : BitVec 16) : le16 (before ++ (bytes16 x ++ after)) before.length = x := by
  apply BitVec.eq_of_toNat_eq
  rw [← field_le16 (by simp [bytes16]), ← littleEndian_bytes16 x]
  exact field_append before (bytes16 x) after

theorem le32_append (before after : List Byte) (x : Word) : le32 (before ++ (bytes32 x ++ after)) before.length = x := by
  apply BitVec.eq_of_toNat_eq
  rw [← field_le32 (by simp [bytes32, bytes16]), ← littleEndian_bytes32 x]
  exact field_append before (bytes32 x) after

theorem le64_append (before after : List Byte) (x : Addr) : le64 (before ++ (bytes64 x ++ after)) before.length = x := by
  apply BitVec.eq_of_toNat_eq
  rw [← field_le64 (by simp [bytes64, bytes32, bytes16]), ← littleEndian_bytes64 x]
  exact field_append before (bytes64 x) after

/-! ## Records and their bytes (R201) -/

/-- The bytes of a record behind its first eight are its parameters. -/
theorem commandRecordOfBytes_params (bytes : Vector Byte 32) (i : Nat) :
    byteAt (commandRecordOfBytes bytes).params.toList i = byteAt bytes.toList (i + 8) := by
  simp only [commandRecordOfBytes, byteAt, List.getD_eq_getElem?_getD, Vector.toList_ofFn]
  by_cases h : i < 24
  · rw [List.getElem?_eq_getElem (by simpa using h), List.getElem_ofFn, Option.getD_some]
  · rw [List.getElem?_eq_none (by simpa using h), List.getElem?_eq_none (by simp; omega)]

/-- A record is given back by its bytes. -/
theorem commandRecordOfBytes_bytes (r : CommandRecord) : commandRecordOfBytes r.bytes = r := by
  have bytes : r.bytes.toList = [r.code, r.flags] ++ (bytes16 r.tag ++ (bytes16 r.index ++ ([0, 0] ++ r.params.toList))) := by
    rw [CommandRecord.bytes, Vector.toList_append]; rfl
  have params : (commandRecordOfBytes r.bytes).params = r.params := by
    apply Vector.ext
    intro i hi
    have h := commandRecordOfBytes_params r.bytes i
    rw [bytes] at h
    simpa [byteAt, List.getD_eq_getElem?_getD, bytes16, hi, commandRecordOfBytes] using h
  have tag : (commandRecordOfBytes r.bytes).tag = r.tag := by
    unfold commandRecordOfBytes; rw [bytes]; exact le16_append _ _ _
  have index : (commandRecordOfBytes r.bytes).index = r.index := by
    unfold commandRecordOfBytes; rw [bytes]; exact le16_append ([r.code, r.flags] ++ bytes16 r.tag) _ _
  have code : (commandRecordOfBytes r.bytes).code = r.code := by unfold commandRecordOfBytes; rw [bytes]; rfl
  have flags : (commandRecordOfBytes r.bytes).flags = r.flags := by unfold commandRecordOfBytes; rw [bytes]; rfl
  generalize commandRecordOfBytes r.bytes = c at *
  cases c; cases r
  simp_all

/-! ## Requests and their records (R202) -/

/-- The parameter bytes of a record are those the request uses, and 0 behind them. -/
theorem parameterBytes_toList {bytes : List Byte} (fits : bytes.length ≤ 24) :
    (parameterBytes bytes).toList = bytes ++ List.replicate (24 - bytes.length) 0 := by
  apply List.ext_getElem
  · simp; omega
  · intro i h1 h2
    simp only [parameterBytes, Vector.toList_ofFn, List.getElem_ofFn, List.getD_eq_getElem?_getD]
    by_cases h : i < bytes.length
    · simp [h]
    · simp [List.getElem_append_right (Nat.le_of_not_lt h), List.getElem?_eq_none (Nat.le_of_not_lt h)]

theorem bindParams_bytes (p : BindParams) (after : List Byte) : bindParams (p.bytes ++ after) = p := by
  have timeout : le16 (p.bytes ++ after) 4 = p.timeout :=
    le16_append [p.sampleRing, p.eventRing, p.level, p.fallbackPresent] ([0, 0] ++ bytes32 p.fallback ++ after) p.timeout
  have fallback : le32 (p.bytes ++ after) 8 = p.fallback := by
    rw [BindParams.bytes, List.append_assoc]
    exact le32_append ([p.sampleRing, p.eventRing, p.level, p.fallbackPresent] ++ bytes16 p.timeout ++ [0, 0]) after p.fallback
  unfold bindParams
  rw [timeout, fallback]
  rfl

theorem watchParams_bytes (p : WatchParams) (after : List Byte) : watchParams (p.bytes ++ after) = p := by
  have upper : le32 (p.bytes ++ after) 8 = p.upper :=
    le32_append [p.stream, p.kind, p.level, p.target, p.alarmLine, p.attributes, p.na, p.nc]
      (bytes32 p.lower ++ bytes32 p.hysteresis ++ after) p.upper
  have lower : le32 (p.bytes ++ after) 12 = p.lower :=
    le32_append ([p.stream, p.kind, p.level, p.target, p.alarmLine, p.attributes, p.na, p.nc] ++ bytes32 p.upper)
      (bytes32 p.hysteresis ++ after) p.lower
  have hysteresis : le32 (p.bytes ++ after) 16 = p.hysteresis :=
    le32_append ([p.stream, p.kind, p.level, p.target, p.alarmLine, p.attributes, p.na, p.nc] ++ bytes32 p.upper ++ bytes32 p.lower)
      after p.hysteresis
  unfold watchParams
  rw [upper, lower, hysteresis]
  rfl

/-- A request is given back by its record; an unknown code must name no command (R37). -/
theorem recordOf_request {q : Request} (wf : q.wellFormed = true) (h : CmdHeader) : (recordOf h q).request = q := by
  have slots (base : Addr) (x : BitVec 16) (after : List Byte) : le16 (bytes64 base ++ (bytes16 x ++ after)) 8 = x :=
    le16_append (bytes64 base) after x
  have base (x : Addr) (after : List Byte) : le64 (bytes64 x ++ after) 0 = x := le64_append [] after x
  unfold CommandRecord.request recordOf
  cases q with
  | unknown code => exact decodeRequest_unknown (show code ∉ commandCodes by simpa [Request.wellFormed] using wf) _
  | openSampleRing x n =>
    rw [parameterBytes_toList (by simp [Request.paramBytes, bytes64, bytes32, bytes16])]
    change Request.openSampleRing _ _ = _
    simp only [Request.paramBytes, List.append_assoc, base, slots]
  | openEventRing x n notify floor =>
    rw [parameterBytes_toList (by simp [Request.paramBytes, bytes64, bytes32, bytes16])]
    change Request.openEventRing _ _ _ _ = _
    simp only [Request.paramBytes, List.append_assoc, base, slots]
    rfl
  | bindStream p =>
    rw [parameterBytes_toList (by simp [Request.paramBytes, BindParams.bytes, bytes32, bytes16])]
    exact congrArg Request.bindStream (bindParams_bytes p _)
  | createWatch p =>
    rw [parameterBytes_toList (by simp [Request.paramBytes, WatchParams.bytes, bytes32, bytes16])]
    exact congrArg Request.createWatch (watchParams_bytes p _)
  | modifyWatch p =>
    rw [parameterBytes_toList (by simp [Request.paramBytes, WatchParams.bytes, bytes32, bytes16])]
    exact congrArg Request.modifyWatch (watchParams_bytes p _)
  | setFloor level | configureAlarm mode => rw [parameterBytes_toList (by simp [Request.paramBytes])]; rfl
  | _ => rfl

end Sys2Proof.Machine

namespace Sys2Proof.Laws

open Sys2Proof.Machine

/-- The family `RowRequest`, for every row. -/
theorem rowRequest (i : Instr) : RowRequest.Statement i := by
  cases i with
  | start => exact RowRequest.start
  | stop => exact RowRequest.stop
  | reset => exact RowRequest.reset
  | setupLo value => exact RowRequest.setupLo value
  | setupHi value => exact RowRequest.setupHi value
  | producerPost word => exact RowRequest.producerPost word
  | consumerPost word => exact RowRequest.consumerPost word
  | timeLoRead lanes => exact RowRequest.timeLoRead lanes
  | registerWriteIgnored offset lanes value => exact RowRequest.registerWriteIgnored offset lanes value
  | hardwareReset => exact RowRequest.hardwareReset
  | rstNRelease => exact RowRequest.rstNRelease
  | memoryAccessGrant => exact RowRequest.memoryAccessGrant
  | setupReadCompletion result => exact RowRequest.setupReadCompletion result
  | commandFetchCompletion result => exact RowRequest.commandFetchCompletion result
  | replyWriteCompletion result => exact RowRequest.replyWriteCompletion result
  | shadowWriteCompletion result => exact RowRequest.shadowWriteCompletion result
  | sampleFetchCompletion ring result => exact RowRequest.sampleFetchCompletion ring result
  | eventWriteCompletion ring result => exact RowRequest.eventWriteCompletion ring result
  | overrunWriteCompletion ring result => exact RowRequest.overrunWriteCompletion ring result
  | completionDiscarded requester epoch => exact RowRequest.completionDiscarded requester epoch
  | silenceExpiry stream => exact RowRequest.silenceExpiry stream
  | nop h => exact RowRequest.nop h
  | unknownCommand code h => exact RowRequest.unknownCommand code h
  | openSampleRing h base slots => exact RowRequest.openSampleRing h base slots
  | closeSampleRing h => exact RowRequest.closeSampleRing h
  | openEventRing h base slots notify floor => exact RowRequest.openEventRing h base slots notify floor
  | closeEventRing h => exact RowRequest.closeEventRing h
  | queryRing h => exact RowRequest.queryRing h
  | bindStream h p => exact RowRequest.bindStream h p
  | unbindStream h => exact RowRequest.unbindStream h
  | reviveStream h => exact RowRequest.reviveStream h
  | queryStream h => exact RowRequest.queryStream h
  | createWatch h p => exact RowRequest.createWatch h p
  | modifyWatch h p => exact RowRequest.modifyWatch h p
  | deleteWatch h => exact RowRequest.deleteWatch h
  | armWatch h => exact RowRequest.armWatch h
  | disarmWatch h => exact RowRequest.disarmWatch h
  | ackWatch h => exact RowRequest.ackWatch h
  | queryWatch h => exact RowRequest.queryWatch h
  | release h => exact RowRequest.release h
  | setFloor h level => exact RowRequest.setFloor h level
  | configureAlarm h mode => exact RowRequest.configureAlarm h mode
  | releaseAlarm h => exact RowRequest.releaseAlarm h
  | timeBaseTick => exact RowRequest.timeBaseTick

end Sys2Proof.Laws

namespace Sys2Proof.Machine

/-- Settles O5: the bytes give the record back, and the record the request, whose row is the one that was spelled. -/
theorem commandRecordRoundTrip : Obligations.CommandRecordRoundTrip := by
  intro i h q request wf
  obtain ⟨row, wellFormed⟩ := Laws.rowRequest i h q request
  dsimp only
  rw [commandRecordOfBytes_bytes]
  refine ⟨rfl, ?_⟩
  rw [recordOf_request (wellFormed wf)]
  exact row

end Sys2Proof.Machine
end

section
/-!
PROOFS. The owner of a command does not read the command engine: with another command held, it answers the same and leaves the same, but for
what the command engine holds (R38).
-/

namespace Sys2Proof.Machine

section
variable (c : CommandEngine) (s : State)

@[simp] theorem State.busy_setCmd (r : Requester) : (s.setCmd c).busy r = s.busy r := rfl
@[simp] theorem sampleRingUsed_setCmd (n : Fin 8) : sampleRingUsed n (s.setCmd c) = sampleRingUsed n s := rfl
@[simp] theorem eventRingUsed_setCmd (n : Fin 4) : eventRingUsed n (s.setCmd c) = eventRingUsed n s := rfl
@[simp] theorem holdWriteInFlight_setCmd (n : Fin 4) : holdWriteInFlight n (s.setCmd c) = holdWriteInFlight n s := rfl
@[simp] theorem hasPending_setCmd (x : Source) : hasPending x (s.setCmd c) = hasPending x s := rfl
@[simp] theorem eventQueryWords_setCmd (n : Fin 4) : eventQueryWords n (s.setCmd c) = eventQueryWords n s := rfl

@[simp] theorem checkWriter_setCmd (n : Fin 4) : checkWriter n (s.setCmd c) = (checkWriter n s).setCmd c :=
  (aside_setCmd c).checkWriter n s

theorem raiseLevel_setCmd (x : Source) (l : Level) : raiseLevel x l (s.setCmd c) = (raiseLevel x l s).setCmd c := by
  unfold raiseLevel
  rw [State.setCmd_pool]
  split
  · exact checkWriter_setCmd c (s.setPool _) _
  · rfl

theorem moveWatch_setCmd (id : Fin 128) (w : Watch) (k : Crossing) (v : Word) (x : Seq) (z : Time) (fb : Bool) :
    moveWatch id w k v x z fb (s.setCmd c) = (moveWatch id w k v x z fb s).setCmd c := by
  have stored : (s.setCmd c).setWatch id (some w) = (s.setWatch id (some w)).setCmd c := rfl
  unfold moveWatch
  dsimp only
  rw [stored]
  split
  · rfl
  · rw [(aside_setCmd c).handWatchEvent]; cases w.alarmLine <;> rfl
  · rw [(aside_setCmd c).handWatchEvent]; cases w.alarmLine <;> rfl

theorem judge_setCmd (r : EvalRequest) (id : Fin 128) : judge r id (s.setCmd c) = (judge r id s).setCmd c := by
  unfold judge
  rw [State.setCmd_watches]
  split
  · rfl
  · split
    · rfl
    · exact moveWatch_setCmd _ _ _ _ _ _ _ _ _

theorem evaluate_setCmd (r : EvalRequest) : evaluate r (s.setCmd c) = (evaluate r s).setCmd c := by
  unfold evaluate
  rw [State.setCmd_streams]
  generalize s.streams[r.stream].watchList = l
  induction l generalizing s with
  | nil => rfl
  | cons id l ih => rw [List.foldl_cons, List.foldl_cons, judge_setCmd]; exact ih _

theorem reviveNow_setCmd (i : Fin 64) : reviveNow i (s.setCmd c) = (reviveNow i s).setCmd c := by
  cases held : s.streams[i].held with
  | false =>
    rw [reviveNow_notHeld held, reviveNow_notHeld (s := s.setCmd c) held]
    rfl
  | true =>
    rw [reviveNow_held held, reviveNow_held (s := s.setCmd c) held]
    exact congrArg (State.setStream i _) (evaluate_setCmd c ((runsBroken _ s).setStream i _) _)

end

/-- An answer with its state changed. -/
def Answer.map (f : State → State) : Answer → Answer
  | .done status words u => .done status words (f u)
  | .waits => .waits

section
variable {c : CommandEngine} {s : State} {index : BitVec 16}

theorem Answer.map_ite (p : Prop) [Decidable p] (f : State → State) (a b : Answer) :
    (if p then a else b).map f = if p then a.map f else b.map f := apply_ite _ _ _ _

theorem onWatch_setCmd {act act' : Fin 128 → Watch → Answer} (h : ∀ id w, act' id w = (act id w).map (State.setCmd c)) :
    onWatch index (s.setCmd c) act' = (onWatch index s act).map (State.setCmd c) := by
  unfold onWatch
  rw [State.setCmd_watches]
  split
  · rfl
  · split
    · rfl
    · exact h _ _

theorem finishOpenEventRing_setCmd (n : Fin 4) (base : Addr) (slots : Nat) (notify floor : Level) :
    finishOpenEventRing n base slots notify floor (s.setCmd c) =
      (finishOpenEventRing n base slots notify floor s).map (State.setCmd c) := by
  unfold finishOpenEventRing
  rw [State.setCmd_rings]
  refine congrArg (Answer.done _ _) (.trans ?_ (checkWriter_setCmd c _ n))
  split <;> rfl

/-- The owner of a command does not read the command engine. -/
theorem perform_setCmd (c : CommandEngine) (index : BitVec 16) (flags : Byte) (q : Request) (s : State) :
    perform index flags q (s.setCmd c) = (perform index flags q s).map (State.setCmd c) := by
  cases q with
  | nop => rfl
  | unknown code => rfl
  | openSampleRing base slots =>
    simp only [perform, openSampleRing, State.setCmd_rings, State.busy_setCmd]
    split
    · rfl
    · simp only [Answer.map_ite]; rfl
  | closeSampleRing =>
    simp only [perform, closeSampleRing, State.setCmd_rings, State.busy_setCmd, sampleRingUsed_setCmd]
    split
    · rfl
    · simp only [Answer.map_ite]; rfl
  | openEventRing base slots notify floor =>
    simp only [perform, openEventRing, State.setCmd_rings, State.busy_setCmd, finishOpenEventRing_setCmd]
    split
    · rfl
    · simp only [Answer.map_ite]
      refine if_congr Iff.rfl rfl ?_
      split
      · simp only [Answer.map_ite]; rfl
      · rfl
  | closeEventRing =>
    simp only [perform, closeEventRing, State.setCmd_rings, State.busy_setCmd, eventRingUsed_setCmd]
    split
    · rfl
    · simp only [Answer.map_ite]; rfl
  | queryRing =>
    simp only [perform, queryRing, querySampleRing, State.setCmd_rings, eventQueryWords_setCmd]
    split
    case h_4 => unfold Answer.map; split <;> rfl
    all_goals rfl
  | bindStream p =>
    simp only [perform, bindStream, State.setCmd_rings, State.setCmd_streams]
    split
    · rfl
    · simp only [Answer.map_ite]
      refine if_congr Iff.rfl rfl ?_
      split
      · simp only [Answer.map_ite]; rfl
      · rfl
  | unbindStream =>
    simp only [perform, unbindStream, State.setCmd_streams, hasPending_setCmd]
    split
    · rfl
    · simp only [Answer.map_ite]; rfl
  | reviveStream =>
    simp only [perform, Machine.reviveStream, State.setCmd_streams, reviveNow_setCmd]
    split
    · rfl
    · simp only [Answer.map_ite]; rfl
  | queryStream =>
    simp only [perform, queryStream, State.setCmd_streams]
    split
    · rfl
    · unfold Answer.map; split <;> rfl
  | createWatch p =>
    simp only [perform, Machine.createWatch, State.setCmd_rings, State.setCmd_streams, State.setCmd_watches]
    split
    · rfl
    · simp only [Answer.map_ite]
      refine if_congr Iff.rfl rfl ?_
      split
      · rfl
      · simp only [Answer.map_ite]; rfl
  | modifyWatch p =>
    refine onWatch_setCmd fun id w => ?_
    split
    · rfl
    · exact congrArg (Answer.done _ _) (raiseLevel_setCmd c (s.setWatch id _) _ _)
  | deleteWatch | armWatch => exact onWatch_setCmd fun id w => by simp only [Answer.map_ite]; rfl
  | disarmWatch =>
    refine onWatch_setCmd fun id w => ?_
    simp only [Answer.map_ite]
    refine if_congr Iff.rfl rfl (congrArg (Answer.done _ _) ?_)
    split
    · cases w.alarmLine <;> rfl
    · rfl
  | ackWatch =>
    refine onWatch_setCmd fun id w => ?_
    split
    case h_3 => exact congrArg (Answer.done _ _) (moveWatch_setCmd c s id _ _ _ _ _ _)
    all_goals rfl
  | queryWatch => exact onWatch_setCmd fun _ _ => rfl
  | release =>
    simp only [perform, release, State.setCmd_rings, State.setCmd_delivery]
    split
    · rfl
    · rename_i n _
      simp only [Answer.map_ite]
      refine if_congr Iff.rfl rfl ?_
      cases s.delivery[n].floorStack.getLast? with
      | none => rfl
      | some top => exact congrArg (Answer.done _ _) (checkWriter_setCmd c (s.setDelivery _ _) _)
  | setFloor level =>
    simp only [perform, setFloor, State.setCmd_rings, State.setCmd_delivery, holdWriteInFlight_setCmd]
    split
    · simp only [Answer.map_ite]
      exact if_congr Iff.rfl rfl (if_congr Iff.rfl rfl
        (congrArg (Answer.done _ _) (checkWriter_setCmd c (s.setDelivery _ _) _)))
    · rfl
  | configureAlarm mode =>
    simp only [perform, configureAlarm, State.setCmd_alarms]
    split <;> rfl
  | releaseAlarm =>
    simp only [perform, releaseAlarm, State.setCmd_alarms]
    split
    · rfl
    · simp only [Answer.map_ite]; rfl

end

end Sys2Proof.Machine
end

section
/-!
PROOFS. What a row of the table can do to the part. `Move` lists the kinds of move a row is made of: the changes of the blocks, and the moves
of the control unit, the command engine and the memory access unit, each with what the laws of the steps need to know of it. `exec_moves` says
that every row is a sequence of them; a law that every move keeps is kept by every step (`keptByStep_of_move`).
-/

namespace Sys2Proof.Machine

/-- One move of the part. -/
inductive Move : State → State → Prop
  | change {s t : State} (h : Change s t) : Move s t
  /-- the word read last (R194) -/
  | read {s : State} (word : Word) : Move s { s with readData := word }
  /-- what the control unit holds, outside the entry into FAULT and the end of a load -/
  | control {s : State} (f : Control → Control) (fault : (f s.control).engine = .fault ↔ s.control.engine = .fault)
    (law : FaultLaw s → FaultLaw (s.mapControl f)) : Move s (s.mapControl f)
  /-- a fault report (R190) -/
  | fault {s : State} (k : FaultKind) (address : Addr) (named : k ≠ .noFault) : Move s (faultReport k address s)
  /-- the setup read returns a valid block, and the engine leaves LOADING (R183) -/
  | loaded {s : State} (f : Control → Control) (fault : (f s.control).engine = .fault ↔ s.control.engine = .fault)
    (law : FaultLaw s → FaultLaw ((s.setAccess commandRequester none).mapControl f)) :
    Move s ((s.setAccess commandRequester none).mapControl f)
  /-- the command ring, and what is kept of the shadow area -/
  | commandRing {s : State} (d : Descriptor) (address : Addr) (owed : Bool)
    (law : DescriptorLaw 8 1024 s.rings.command → DescriptorLaw 8 1024 d)
    (state : s.rings.command.state ≠ .faulted → d.state ≠ .faulted) :
    Move s (s.mapRings fun r => { r with command := d, shadowAddr := address, shadowOwed := owed })
  | replyRing {s : State} (d : ReplyRing)
    (law : DescriptorLaw 8 1024 s.rings.reply.toDescriptor → DescriptorLaw 8 1024 d.toDescriptor)
    (state : s.rings.reply.state ≠ .faulted → d.state ≠ .faulted) : Move s (s.setReplyRing d)
  /-- the command engine, outside EXECUTING -/
  | cmd {s : State} (c : CommandEngine) (phase : c.phase ≠ .executing) : Move s (s.setCmd c)
  /-- a command waits in EXECUTING, having passed its checks (R39, R40) -/
  | waits {s : State} (rec : CommandRecord)
    (openSample : ∀ (n : Fin 8) base slots, rec.index.toNat = n.val → rec.request = .openSampleRing base slots →
      validGeometry 16 4096 base slots.toNat = true)
    (openEvent : ∀ (n : Fin 4) base slots notify floor, rec.index.toNat = n.val → rec.request = .openEventRing base slots notify floor →
      validGeometry 8 1024 base slots.toNat = true)
    (closeSample : ∀ n : Fin 8, rec.index.toNat = n.val → rec.request = .closeSampleRing → sampleRingUsed n s = false)
    (closeEvent : ∀ n : Fin 4, rec.index.toNat = n.val → rec.request = .closeEventRing → eventRingUsed n s = false) :
    Move s (s.setCmd { phase := .executing, held := some rec, reply := none })
  /-- an access other than an event ring's is handed over (R17) -/
  | hand {s : State} (r : Requester) (p : Payload) (address : Addr) (makes : requesterMakes r p = true)
    (notEvent : ∀ n, r ≠ eventRequester n) (setup : p = .setupRead → s.control.engine = .loading) :
    Move s (handOver r p address s)
  /-- an access is returned to its block (R19) -/
  | returned {s : State} (r : Requester) : Move s (s.setAccess r none)
  /-- an event ring's access is returned, and its record is settled (R147 to R149) -/
  | settled {s : State} (n : Fin 4) (d : Delivery)
    (law : DeliveryLaw n s → DeliveryLaw n ((s.setAccess (eventRequester n) none).setDelivery n d)) :
    Move s ((s.setAccess (eventRequester n) none).setDelivery n d)
  /-- an access goes onto the link (R18), or has returned in FAULT (R21) -/
  | phase {s : State} (r : Requester) (a : Access) (p : AccessPhase) (l : Requester) (flight : s.access r = some a) :
    Move s ((s.setAccess r (some { a with phase := p })).mapMau fun m => { m with lastGranted := l })
  /-- an access of an older epoch leaves the link (R20) -/
  | stale {s : State} (l : List (Requester × Access)) (sub : ∀ x ∈ l, x ∈ s.mau.stale) :
    Move s (s.mapMau fun m => { m with stale := l })
  /-- the deadlines of an entry into RUN (R69) -/
  | rebased {s : State} : Move s (rebaseDeadlines s)
  /-- a CLOSE_SAMPLE_RING that waited is executed (R26) -/
  | sampleClosed {s : State} (n : Fin 8) (c : CommandEngine) (waits : closeSampleWaits n s) (phase : c.phase ≠ .executing) :
    Move s ((s.setSampleRing n { s.rings.sample[n] with state := .closed, cause := .noCause }).setCmd c)
  /-- an OPEN_SAMPLE_RING that waited is executed (R25) -/
  | sampleOpened {s : State} (n : Fin 8) (base : Addr) (slots : BitVec 16) (c : CommandEngine)
    (waits : openSampleWaits n base slots s) (phase : c.phase ≠ .executing) :
    Move s ((s.setSampleRing n (SampleRing.openedWith base slots.toNat)).setCmd c)
  /-- a CLOSE_EVENT_RING that waited is executed (R29) -/
  | eventClosed {s : State} (n : Fin 4) (c : CommandEngine) (waits : closeEventWaits n s) (phase : c.phase ≠ .executing)
    (quiet : s.access (eventRequester n) = none) :
    Move s (((s.setEventRing n { s.rings.event[n] with state := .closed, cause := .noCause, attention := false }).setDelivery n
      Delivery.atReset).setCmd c)
  /-- an OPEN_EVENT_RING that waited is executed (R28) -/
  | eventOpened {s : State} (n : Fin 4) (base : Addr) (slots : BitVec 16) (notify floor : Byte) (l : Level) (c : CommandEngine)
    (waits : openEventWaits n base slots notify floor s) (phase : c.phase ≠ .executing) :
    Move s ((s.setEventRing n (EventRing.openedWith base slots.toNat l)).setCmd c)
  | softReset {s : State} : Move s (softReset s)
  | hardReset {s : State} : Move s (hardReset s)

/-- A sequence of moves. -/
abbrev Moves : State → State → Prop := Relation.ReflTransGen Move

theorem Changes.moves {s t : State} (h : Changes s t) : Moves s t :=
  Relation.ReflTransGen.mono (fun _ _ => Move.change) s t h

/-! ## The law of faults (R177, R190, R191) -/

section
variable {s : State} {f : Control → Control}

/-- The engine goes from a state without a setup read to one outside FAULT, and no fault is recorded. -/
theorem FaultLaw.between (h : FaultLaw s) (kind : (f s.control).faultKind = s.control.faultKind)
    (address : (f s.control).faultAddr = s.control.faultAddr) (further : (f s.control).furtherFaults = s.control.furtherFaults)
    (heldStop : (f s.control).heldStop = s.control.heldStop) (notFault : s.control.engine ≠ .fault)
    (notLoading : s.control.engine ≠ .loading) (after : (f s.control).engine ≠ .fault)
    (heldStart : (f s.control).heldStart = true → (f s.control).engine = .stopping) : FaultLaw (s.mapControl f) where
  kind := by rw [State.mapControl_control, kind]; exact iff_of_true (h.kind.2 notFault) after
  clear := by rw [State.mapControl_control, kind, address, further]; exact h.clear
  further := by rw [State.mapControl_control, further]; exact h.further
  heldStop held := by rw [State.mapControl_control, heldStop] at held; exact absurd (h.heldStop held) notLoading
  heldStart := heldStart
  setupRead inFlight := by
    obtain loading | fault := h.setupRead inFlight
    · exact absurd loading notLoading
    · exact absurd fault notFault

/-- Nothing of the law's is changed. -/
theorem FaultLaw.congr {t : State} (h : FaultLaw s) (engine : t.control.engine = s.control.engine)
    (kind : t.control.faultKind = s.control.faultKind) (address : t.control.faultAddr = s.control.faultAddr)
    (further : t.control.furtherFaults = s.control.furtherFaults) (heldStop : t.control.heldStop = s.control.heldStop)
    (heldStart : t.control.heldStart = s.control.heldStart) (setup : setupReadInFlight t → setupReadInFlight s) : FaultLaw t where
  kind := by rw [kind, engine]; exact h.kind
  clear := by rw [kind, address, further]; exact h.clear
  further := by rw [further]; exact h.further
  heldStop := by rw [heldStop, engine]; exact h.heldStop
  heldStart := by rw [heldStart, engine]; exact h.heldStart
  setupRead inFlight := by rw [engine]; exact h.setupRead (setup inFlight)

end

/-! ## Checks that start accesses -/

section
variable {s : State}

theorem issueShadowWrite_moves (s : State) : Moves s (issueShadowWrite s) := by
  unfold issueShadowWrite
  split
  · refine .tail (.single (.commandRing s.rings.command s.rings.shadowAddr false id id))
      (.hand shadowRequester _ _ ?_ (by decide) (by rintro ⟨⟩))
    simp [requesterMakes, shadowRequester, shadowIndices]
  · exact .refl

theorem startCommandFetch_moves (s : State) : Moves s (startCommandFetch s) := by
  unfold startCommandFetch
  split
  · exact .tail (.single (.cmd { s.cmd with phase := .fetching } (by simp)))
      (.hand commandRequester .commandFetch _ rfl (by decide) (by rintro ⟨⟩))
  · exact .refl

/-- A sample ring's requester makes sample fetches (R17). -/
theorem requesterMakes_sample (n : Fin 8) {count : Nat} (h : count ≤ 8) :
    requesterMakes (sampleRequester n) (.sampleFetch count) = true := by
  have bound := n.isLt
  have value : (sampleRequester n).val = 3 + n.val := rfl
  simp only [requesterMakes, Bool.and_eq_true, decide_eq_true_eq, value]
  omega

theorem sampleRequester_ne_event (n : Fin 8) (m : Fin 4) : sampleRequester n ≠ eventRequester m := by
  revert n m; decide

theorem startSampleFetch_moves (n : Fin 8) (s : State) : Moves s (startSampleFetch n s) := by
  unfold startSampleFetch
  split
  · exact .single (.hand _ _ _ (requesterMakes_sample n (Nat.min_le_left _ _)) (sampleRequester_ne_event n) (by rintro ⟨⟩))
  · exact .refl

/-- What every step of a walk over a list may do, the walk may do. -/
theorem moves_foldl {α : Type} {g : α → State → State} (h : ∀ a s, Moves s (g a s)) (l : List α) (s : State) :
    Moves s (l.foldl (fun t a => g a t) s) := by
  induction l generalizing s with
  | nil => exact .refl
  | cons a l ih => exact (h a s).trans (ih _)

/-- What an entry into RUN starts (R184). -/
theorem startAll_moves (s : State) : Moves s (startSampleFetches (startCommandFetch s)) :=
  (startCommandFetch_moves s).trans (moves_foldl startSampleFetch_moves _ _)

/-- The entry into RUN, once the engine is RUN (R184). -/
theorem afterRun_moves (s : State) : Moves s (checkWriters (startSampleFetches (startCommandFetch (rebaseDeadlines s)))) :=
  .head .rebased ((startAll_moves _).trans (checkWriters_changes _).moves)

/-- The entry into RUN from STOPPED (R175). -/
theorem enterRun_moves (stopped : s.control.engine = .stopped) : Moves s (enterRun s) := by
  refine .head (.control _ ?_ fun h => ?_) (afterRun_moves _)
  · simp [stopped]
  · exact h.between rfl rfl rfl rfl (by simp [stopped]) (by simp [stopped]) (by simp)
      (fun held => absurd (h.heldStart held) (by simp [stopped]))

theorem checkStoppingEnd_moves (s : State) : Moves s (checkStoppingEnd s) := by
  unfold checkStoppingEnd
  split
  · rename_i ends
    obtain ⟨stopping, -⟩ := ends
    split
    · refine .head (.control (fun c => { c with heldStart := false, engine := .run }) (by simp [stopping]) fun h => ?_)
        (afterRun_moves _)
      exact h.between rfl rfl rfl rfl (by simp [stopping]) (by simp [stopping]) (by simp) (by simp)
    · rename_i notHeld
      refine .single (.control _ (by simp [stopping]) fun h => ?_)
      exact h.between rfl rfl rfl rfl (by simp [stopping]) (by simp [stopping]) (by simp) (fun held => absurd held notHeld)
  · exact .refl

/-! ## Host commands -/

/-- A reply is handed over (R42). -/
theorem sendReply_moves {rec : CommandRecord} {status : Status} {words : Words} {u : State}
    (h : ∀ c : CommandEngine, c.phase ≠ .executing → Moves s (u.setCmd c)) : Moves s (sendReply rec status words u) :=
  .tail (h _ (by simp)) (.hand replyRequester (.replyWrite _) _ rfl (by decide) (by rintro ⟨⟩))

/-- The waits of the owners of the ring commands (R25, R26, R28, R29). -/
theorem openSampleRing_waits {index : BitVec 16} {base : Addr} {slots : BitVec 16} (h : openSampleRing index base slots s = .waits) :
    validGeometry 16 4096 base slots.toNat = true := by
  unfold openSampleRing finishOpenSampleRing refuse at h
  grind

theorem closeSampleRing_waits {index : BitVec 16} {n : Fin 8} (name : index.toNat = n.val) (h : closeSampleRing index s = .waits) :
    sampleRingUsed n s = false := by
  rw [closeSampleRing, fieldBelow_eq_some.2 name] at h
  unfold finishCloseSampleRing refuse at h
  grind

theorem openEventRing_waits {index : BitVec 16} {base : Addr} {slots : BitVec 16} {notify floor : Byte}
    (h : openEventRing index base slots notify floor s = .waits) : validGeometry 8 1024 base slots.toNat = true := by
  unfold openEventRing finishOpenEventRing refuse at h
  grind

theorem closeEventRing_waits {index : BitVec 16} {n : Fin 4} (name : index.toNat = n.val) (h : closeEventRing index s = .waits) :
    eventRingUsed n s = false := by
  rw [closeEventRing, fieldBelow_eq_some.2 name] at h
  unfold finishCloseEventRing refuse at h
  grind

/-- A command is taken, executed and answered, or waits (R36, R38, R39, R42). -/
theorem takeCommand_moves (rec : CommandRecord) (s : State) : Moves s (takeCommand rec (ownerOf rec) s) := by
  have ring : Move s (s.mapRings fun r => { r with
      command := { r.command with consumer := r.command.advance r.command.consumer 1 }, shadowOwed := true }) := by
    refine .commandRing _ _ true (fun law notClosed => ?_) id
    obtain ⟨geometry, producer, consumer⟩ := law notClosed
    exact ⟨geometry, producer, Descriptor.advance_lt 1 consumer⟩
  refine .trans ?_ (checkStoppingEnd_moves _)
  refine .trans ?_ (issueShadowWrite_moves _)
  cases answer : ownerOf rec (holdCommand rec s) with
  | done status words u =>
    refine sendReply_moves fun c phase => .head ring (.head (.cmd c phase) ?_)
    have asked := perform_setCmd c rec.index rec.flags rec.request (holdCommand rec s)
    rw [show perform rec.index rec.flags rec.request (holdCommand rec s) = _ from answer] at asked
    have changed := perform_changes rec.index rec.flags rec.request (s := (holdCommand rec s).setCmd c) phase
    rw [asked] at changed
    exact Changes.moves changed
  | waits =>
    refine .head ring (.single (.waits rec ?_ ?_ ?_ ?_)) <;> intro n <;> intros <;>
      rename_i name request <;> unfold ownerOf at answer <;> rw [request] at answer
    · exact openSampleRing_waits answer
    · exact openEventRing_waits answer
    · exact closeSampleRing_waits (s := holdCommand rec s) name answer
    · exact closeEventRing_waits (s := holdCommand rec s) name answer

/-- A host command's row is the completion of the command fetch with its record (log 4). -/
theorem exec_rowOf (h : CmdHeader) (q : Request) (s : State) :
    exec (rowOf h q) s = onCommandFetch (recordOf h q) (ownerOf (recordOf h q)) s := by
  have owner (wf : q.wellFormed = true) : ownerOf (recordOf h q) = perform h.index h.flags q := by
    funext t; unfold ownerOf; rw [recordOf_request wf]; rfl
  cases q with
  | unknown code => rfl
  | _ => rw [owner rfl]; rfl

/-- Every row of a host command is such a row. -/
theorem exec_of_request {i : Instr} {h : CmdHeader} {q : Request} (request : i.request = some (h, q)) (s : State) :
    exec i s = onCommandFetch (recordOf h q) (ownerOf (recordOf h q)) s := by
  rw [← exec_rowOf, (Laws.rowRequest i h q request).1]

end

/-! ## Completions -/

section
variable {s t : State}

/-- What a completion row can do, where what its block does is made of moves. -/
theorem onArrival_moves {r : Requester} {kind : Payload → Bool} {deliver : Access → State → State}
    (h : ∀ a, s.access r = some a → kind a.payload = true → s.control.engine ≠ .fault → Moves s (deliver a (s.setAccess r none)))
    (next : onArrival r kind s deliver = .next t) : Moves s t := by
  obtain ⟨a, flight, -, payload, ⟨-, rfl⟩ | ⟨notFault, rfl⟩⟩ := onArrival_next next
  · exact .single (.phase r a .returned s.mau.lastGranted flight)
  · exact h a flight payload notFault

theorem onCommandFetch_moves (rec : CommandRecord) (next : onCommandFetch rec (ownerOf rec) s = .next t) : Moves s t :=
  onArrival_moves (fun _ _ _ _ => .head (.returned _) (takeCommand_moves rec _)) next

/-- An access error of the command path faults the engine (R16, R46, R47). -/
theorem faulted_moves (k : FaultKind) (address : Addr) (r : Requester) (named : k ≠ .noFault) :
    Moves s (faultReport k address (s.setAccess r none)) :=
  .head (.returned r) (.single (.fault k address named))

theorem setupReadCompletion_moves {result : Completion (Vector Byte 28)} (next : execSetupReadCompletion result s = .next t) :
    Moves s t := by
  refine onArrival_moves (fun a flight payload notFault => ?_) next
  have isSetup : a.payload = .setupRead := by revert payload; cases a.payload <;> simp [isSetupRead]
  have noSetup : ¬ setupReadInFlight (s.setAccess commandRequester none) := by
    rintro ⟨b, h, -⟩; rw [State.access_setAccess_self] at h; cases h
  cases result with
  | accessError => exact faulted_moves _ _ _ (by decide)
  | ok bytes =>
    dsimp only
    split
    · rename_i valid
      unfold SetupBlock.valid at valid
      simp only [Bool.and_eq_true] at valid
      obtain ⟨⟨commandGood, replyGood⟩, -⟩ := valid
      have rings : Moves s (loadSetup (setupBlock bytes.toList) s) :=
        .head (.commandRing (Descriptor.openedWith _ _) _ s.rings.shadowOwed
            (fun _ => DescriptorLaw.fresh (by decide) commandGood) (by simp [Descriptor.openedWith]))
          (.single (.replyRing _ (fun _ => DescriptorLaw.fresh (by decide) replyGood) (by simp [Descriptor.openedWith])))
      unfold endLoad
      split
      · refine rings.tail (.loaded (fun c => { c with heldStop := false, engine := .stopped }) (by simpa [loadSetup] using notFault)
          fun h => ?_)
        have loading : s.control.engine = .loading := (h.setupRead ⟨a, flight, isSetup⟩).resolve_right notFault
        exact ⟨iff_of_true (h.kind.2 notFault) (by simp), h.clear, h.further, by simp,
          fun held => absurd (h.heldStart held) (by simp [loadSetup, loading]), fun inFlight => absurd inFlight noSetup⟩
      · rename_i notHeld
        refine (rings.tail (.loaded (fun c => { c with engine := .run }) (by simpa [loadSetup] using notFault) fun h => ?_)).trans
          (startAll_moves _)
        have loading : s.control.engine = .loading := (h.setupRead ⟨a, flight, isSetup⟩).resolve_right notFault
        exact ⟨iff_of_true (h.kind.2 notFault) (by simp), h.clear, h.further, fun held => absurd held notHeld,
          fun held => absurd (h.heldStart held) (by simp [loadSetup, loading]), fun inFlight => absurd inFlight noSetup⟩
    · exact faulted_moves _ _ _ (by decide)

theorem commandFetchCompletion_moves {result : Completion (Vector Byte 32)} (next : execCommandFetchCompletion result s = .next t) :
    Moves s t := by
  refine onArrival_moves (fun a _ _ _ => ?_) next
  cases result with
  | ok bytes => exact .head (.returned _) (takeCommand_moves _ _)
  | accessError => exact .head (.returned _) (.head (.cmd CommandEngine.atReset (by decide)) (.single (.fault _ _ (by decide))))

theorem replyWriteCompletion_moves {result : Completion Unit} (next : execReplyWriteCompletion result s = .next t) : Moves s t := by
  refine onArrival_moves (fun a _ _ _ => .head (.returned replyRequester) ?_) next
  cases result with
  | ok _ =>
    refine .head (.replyRing s.rings.reply.written (fun law notClosed => ?_) id) (.head (.cmd CommandEngine.atReset (by decide))
      ((startCommandFetch_moves _).trans (checkStoppingEnd_moves _)))
    obtain ⟨geometry, producer, consumer⟩ := law notClosed
    exact ⟨geometry, Descriptor.advance_lt 1 producer, consumer⟩
  | accessError => exact .head (.cmd CommandEngine.atReset (by decide)) (.single (.fault _ _ (by decide)))

theorem shadowWriteCompletion_moves {result : Completion Unit} (next : execShadowWriteCompletion result s = .next t) : Moves s t := by
  refine onArrival_moves (fun a _ _ _ => ?_) next
  cases result with
  | ok _ => exact .head (.returned _) ((issueShadowWrite_moves _).trans (checkStoppingEnd_moves _))
  | accessError => exact faulted_moves _ _ _ (by decide)

/-- A sample ring command that waited goes on (R39). -/
theorem resumeSampleCommand_moves (n : Fin 8) (s : State) : Moves s (resumeSampleCommand n s) := by
  unfold resumeSampleCommand
  split
  · rename_i rec phase held
    split
    · rename_i name
      have waits {q : Request} (request : rec.request = q) : waitsWith n.val q rec s :=
        ⟨phase, held, fieldBelow_eq_some.1 name, request⟩
      cases request : rec.request with
      | openSampleRing base slots =>
        refine sendReply_moves fun c notExecuting => ?_
        exact .head (.sampleOpened n base slots c ⟨rec, waits request⟩ notExecuting) (.single (.change .owed))
      | closeSampleRing => exact sendReply_moves fun c notExecuting => .single (.sampleClosed n c ⟨rec, waits request⟩ notExecuting)
      | _ => exact .refl
    · exact .refl
  · exact .refl

theorem sampleFetchCompletion_moves {n : Fin 8} {result : Completion (List (Vector Byte 8))}
    (next : execSampleFetchCompletion n result s = .next t) : Moves s t := by
  have after (u : State) : Moves u (afterSampleFetch n u) :=
    (((resumeSampleCommand_moves n u).trans (startSampleFetch_moves n _)).trans (issueShadowWrite_moves _)).trans
      (checkStoppingEnd_moves _)
  refine onArrival_moves (fun a _ _ _ => .head (.returned (sampleRequester n)) ?_) next
  cases result with
  | ok records => exact (takeSamples_changes _ _ _).moves.trans (after _)
  | accessError => exact .head (.change (SampleRing.faultWith_change (by decide) _)) (after _)

/-- An event ring command that waited goes on (R39); the write it waited for has returned. -/
theorem resumeEventCommand_moves {n : Fin 4} (quiet : s.access (eventRequester n) = none) : Moves s (resumeEventCommand n s) := by
  unfold resumeEventCommand
  split
  · rename_i rec phase held
    split
    · rename_i name
      have waits {q : Request} (request : rec.request = q) : waitsWith n.val q rec s :=
        ⟨phase, held, fieldBelow_eq_some.1 name, request⟩
      cases request : rec.request with
      | openEventRing base slots notify floor =>
        dsimp only
        split
        · rename_i l f _ _
          refine sendReply_moves fun c notExecuting => ?_
          have opened {u : State} (cmd : u.cmd = s.cmd) :
              Moves u (checkWriter n ((u.setEventRing n (EventRing.openedWith base slots.toNat l)).setCmd c)) := by
            refine .head (.eventOpened n base slots notify floor l c ⟨rec, ?_⟩ notExecuting) (checkWriter_changes n _).moves
            unfold waitsWith; rw [cmd]; exact waits request
          rw [← checkWriter_setCmd]
          split
          · exact .head (.change (.delivery n (Delivery.openedWith f) fun _ => .fresh quiet)) (opened rfl)
          · exact opened rfl
        · exact .refl
      | closeEventRing =>
        exact sendReply_moves fun c notExecuting => .single (.eventClosed n c ⟨rec, waits request⟩ notExecuting quiet)
      | _ => exact .refl
    · exact .refl
  · exact .refl

theorem afterEventWrite_moves {n : Fin 4} (quiet : s.access (eventRequester n) = none) : Moves s (afterEventWrite n s) :=
  ((resumeEventCommand_moves quiet).trans (checkWriter_changes n _).moves).trans (checkStoppingEnd_moves _)

/-- An event ring after a completed write (R24). -/
theorem eventWritten_change (n : Fin 4) (l : Level) (s : State) : Change s (eventWritten n l s) := by
  refine .eventRing n _ ?_ fun h => ⟨fun notClosed => ?_, h.2⟩
  · exact .inl
  · obtain ⟨geometry, producer, consumer⟩ := h.1 notClosed
    exact ⟨geometry, Descriptor.advance_lt 1 producer, consumer⟩

/-- With its write returned, the law of a delivery state is about the state alone. -/
theorem DeliveryLaw.settled {n : Fin 4} {d : Delivery} (increasing : d.floorStack.Pairwise (· < ·))
    (aboveBase : ∀ l ∈ d.floorStack, d.baseFloor < l) (owed : d.owed = true ↔ 0 < d.lost) (lost : d.lost ≤ 65535) :
    DeliveryLaw n ((s.setAccess (eventRequester n) none).setDelivery n d) := by
  have read : ((s.setAccess (eventRequester n) none).setDelivery n d).delivery[n] = d := by simp
  refine .ofQuiet (State.access_setAccess_self _ _ _) ?_ ?_ ?_ ?_ <;> rw [read]
  · exact increasing
  · exact aboveBase
  · exact owed
  · exact lost

/-- The level of a hold record is pushed above those of the stack (R147). -/
theorem DeliveryLaw.push {n : Fin 4} {r : EventRecord} (h : DeliveryLaw n s) (inFlight : recordInFlight n s = some r) :
    DeliveryLaw n ((s.setAccess (eventRequester n) none).setDelivery n (s.delivery[n].push r)) := by
  unfold Delivery.push
  split
  · rename_i holds
    have above : ∀ l ∈ s.delivery[n].floorStack, l < r.level := by
      intro l hl
      refine lt_of_le_of_lt ?_ (h.holdAbove r inFlight holds)
      unfold Delivery.currentFloor
      obtain empty | ⟨init, top, stack⟩ := List.eq_nil_or_concat' s.delivery[n].floorStack
      · rw [empty] at hl; cases hl
      · have increasing := h.increasing
        rw [stack] at hl increasing ⊢
        rw [List.getLast?_concat, Option.getD_some]
        obtain hl | hl := List.mem_append.1 hl
        · exact ((List.pairwise_append.1 increasing).2.2 l hl top (by simp)).le
        · exact (List.mem_singleton.1 hl).le
    have base : s.delivery[n].baseFloor < r.level := by
      refine lt_of_le_of_lt ?_ (h.holdAbove r inFlight holds)
      unfold Delivery.currentFloor
      cases top : s.delivery[n].floorStack.getLast? with
      | none => exact le_rfl
      | some l => exact (h.aboveBase l (List.mem_of_getLast? top)).le
    refine .settled ?_ ?_ h.owed h.lost
    · exact List.pairwise_append.2 ⟨h.increasing, List.pairwise_singleton _ _, by simpa using above⟩
    · simpa [or_imp, forall_and] using ⟨h.aboveBase, base⟩
  · exact .settled h.increasing h.aboveBase h.owed h.lost

theorem eventWriteCompletion_moves {n : Fin 4} {result : Completion Unit} (next : execEventWriteCompletion n result s = .next t) :
    Moves s t := by
  refine onArrival_moves (fun a flight payload _ => ?_) next
  obtain ⟨r, isWrite⟩ : ∃ r, a.payload = .eventWrite r := by
    revert payload; cases a.payload <;> simp [isEntryWrite]
  cases result with
  | ok _ =>
    have inFlight : recordInFlight n s = some r := by
      obtain ⟨p, address, epoch, phase⟩ := a
      obtain rfl : p = .eventWrite r := isWrite
      unfold recordInFlight; rw [flight]
    dsimp only
    rw [isWrite]
    exact .head (.settled n _ fun h => h.push inFlight) (.head (.change (eventWritten_change n _ _)) (afterEventWrite_moves (State.access_setAccess_self _ _ _)))
  | accessError =>
    refine .head (.settled n s.delivery[n].countLoss fun h => ?_)
      (.head (.change (EventRing.faultWith_change (by decide) _)) (afterEventWrite_moves (State.access_setAccess_self _ _ _)))
    have counted := h.countLoss
    have read : (s.setDelivery n s.delivery[n].countLoss).delivery[n] = s.delivery[n].countLoss := by simp
    exact .settled (read ▸ counted.increasing) (read ▸ counted.aboveBase) (read ▸ counted.owed) (read ▸ counted.lost)

theorem overrunWriteCompletion_moves {n : Fin 4} {result : Completion Unit}
    (next : execOverrunWriteCompletion n result s = .next t) : Moves s t := by
  refine onArrival_moves (fun a flight payload _ => ?_) next
  obtain ⟨lap, carried, time, isWrite⟩ : ∃ lap carried time, a.payload = .eventWrite (.overrun lap carried time) := by
    revert payload
    cases a.payload with
    | eventWrite r => cases r <;> simp [isOverrunWrite]
    | _ => simp [isOverrunWrite]
  cases result with
  | ok _ =>
    dsimp only
    rw [isWrite]
    refine .head (.settled n (s.delivery[n].settleOverrun carried) fun h => ?_)
      (.head (.change (eventWritten_change n _ _)) (afterEventWrite_moves (State.access_setAccess_self _ _ _)))
    exact .settled h.increasing h.aboveBase (by simp [Delivery.settleOverrun])
      (show s.delivery[n].lost - carried ≤ 65535 by have := h.lost; omega)
  | accessError =>
    exact .head (.returned _) (.head (.change (EventRing.faultWith_change (by decide) _)) (afterEventWrite_moves (State.access_setAccess_self _ _ _)))

theorem memoryAccessGrant_moves (next : execMemoryAccessGrant s = .next t) : Moves s t := by
  unfold execMemoryAccessGrant grantTo at next
  split at next
  · cases next; exact .refl
  · split at next
    · cases next
      split
      · exact .single (.phase _ _ .onLink _ ‹_›)
      · exact .refl
    · cases next; exact .refl

theorem completionDiscarded_moves {r : Requester} {epoch : Nat} (next : execCompletionDiscarded r epoch s = .next t) : Moves s t := by
  unfold execCompletionDiscarded at next
  split at next
  · cases next
    exact .single (.stale _ fun x hx => List.mem_of_mem_eraseP hx)
  · split at next
    · rename_i a flight
      split at next
      · split at next
        · cases next; exact .single (.phase r a .returned s.mau.lastGranted flight)
        · cases next
      · cases next
    · cases next

/-! ## The register window, the pins and the clock -/

theorem busWrite_moves {effect : State → State} (h : Moves s (effect s)) : Moves s (busWrite effect s) := by
  unfold busWrite
  split
  · exact .refl
  · exact h

/-- A change of the control unit that touches neither the engine nor what the law of faults is about. -/
theorem control_move (f : Control → Control) (engine : (f s.control).engine = s.control.engine)
    (kind : (f s.control).faultKind = s.control.faultKind) (address : (f s.control).faultAddr = s.control.faultAddr)
    (further : (f s.control).furtherFaults = s.control.furtherFaults) (heldStop : (f s.control).heldStop = s.control.heldStop)
    (heldStart : (f s.control).heldStart = s.control.heldStart) : Move s (s.mapControl f) :=
  .control f (by rw [engine]) fun h => h.congr engine kind address further heldStop heldStart id

theorem startCode_moves (s : State) : Moves s (startCode s) := by
  unfold startCode
  split
  · rename_i idle
    refine .tail (.single (.control _ (by simp [idle]) fun h => ?_)) (.hand commandRequester .setupRead _ rfl (by decide) fun _ => rfl)
    exact h.between rfl rfl rfl rfl (by simp [idle]) (by simp [idle]) (by simp) (fun held => absurd (h.heldStart held) (by simp [idle]))
  · rename_i stopping
    refine .single (.control _ Iff.rfl fun h => ?_)
    exact h.between rfl rfl rfl rfl (by simp [stopping]) (by simp [stopping]) (by simp [stopping]) (fun _ => stopping)
  · exact enterRun_moves ‹_›
  all_goals exact .refl

theorem stopCode_moves (s : State) : Moves s (stopCode s) := by
  unfold stopCode
  split
  · rename_i loading
    exact .single (.control _ Iff.rfl fun h => { h with heldStop := fun _ => loading })
  · rename_i run
    refine .head (.control _ (by simp [run]) fun h => ?_) (checkStoppingEnd_moves _)
    exact h.between rfl rfl rfl rfl (by simp [run]) (by simp [run]) (by simp) (fun _ => rfl)
  all_goals exact .refl

theorem writeSetupLo_moves (value : Word) (s : State) : Moves s (writeSetupLo value s) := by
  unfold writeSetupLo
  split
  · exact .single (control_move _ rfl rfl rfl rfl rfl rfl)
  · exact .refl

theorem writeSetupHi_moves (value : Word) (s : State) : Moves s (writeSetupHi value s) := by
  unfold writeSetupHi
  split
  · exact .single (control_move _ rfl rfl rfl rfl rfl rfl)
  · exact .refl

theorem lt_slots_of_producerPost {d : Descriptor} {i : Nat} (h : d.validProducerPost i = true) : i < d.slots := by
  simp only [Descriptor.validProducerPost, Bool.and_eq_true, decide_eq_true_eq] at h; exact h.1

theorem lt_slots_of_consumerPost {d : Descriptor} {i : Nat} (h : d.validConsumerPost i = true) : i < d.slots := by
  simp only [Descriptor.validConsumerPost, Bool.and_eq_true, decide_eq_true_eq] at h; exact h.1

theorem postCommand_moves (i : Nat) (s : State) : Moves s (postCommand i s) := by
  unfold postCommand
  dsimp only
  split
  · exact .refl
  · split
    · rename_i valid
      refine .head (.commandRing { s.rings.command with producer := i } s.rings.shadowAddr s.rings.shadowOwed
        (fun law notClosed => ?_) id) (startCommandFetch_moves _)
      obtain ⟨geometry, -, consumer⟩ := law notClosed
      have producer := lt_slots_of_producerPost valid
      exact ⟨geometry, producer, consumer⟩
    · exact .single (.fault _ _ (by decide))

theorem postSample_moves (n : Fin 8) (i : Nat) (s : State) : Moves s (postSample n i s) := by
  unfold postSample
  dsimp only
  split
  · exact .refl
  · rename_i opened
    split
    · rename_i valid
      refine .head (.change (.sampleRing n { s.rings.sample[n] with producer := i } (fun closed => absurd closed opened)
        fun h => ⟨fun notClosed => ?_, h.2⟩)) (startSampleFetch_moves n _)
      obtain ⟨geometry, -, consumer⟩ := h.1 notClosed
      have producer := lt_slots_of_producerPost valid
      exact ⟨geometry, producer, consumer⟩
    · exact .single (.change (SampleRing.faultWith_change (by decide) s))

theorem postReply_moves (i : Nat) (s : State) : Moves s (postReply i s) := by
  unfold postReply
  dsimp only
  split
  · exact .refl
  · split
    · rename_i valid
      refine .head (.replyRing (s.rings.reply.consumed i) (fun law notClosed => ?_) id) (startCommandFetch_moves _)
      obtain ⟨geometry, producer, -⟩ := law notClosed
      have consumer := lt_slots_of_consumerPost valid
      exact ⟨geometry, producer, consumer⟩
    · exact .single (.fault _ _ (by decide))

theorem postEvent_moves (n : Fin 4) (i : Nat) (s : State) : Moves s (postEvent n i s) := by
  unfold postEvent
  dsimp only
  split
  · exact .refl
  · rename_i opened
    split
    · rename_i valid
      refine .head (.change (.eventRing n (s.rings.event[n].consumed i) (fun closed => absurd closed opened)
        fun h => ⟨fun notClosed => ?_, h.2⟩)) (checkWriter_changes n _).moves
      obtain ⟨geometry, producer, -⟩ := h.1 notClosed
      have consumer := lt_slots_of_consumerPost valid
      exact ⟨geometry, producer, consumer⟩
    · exact .single (.change (EventRing.faultWith_change (by decide) s))

theorem writePost_moves (word : Word) (s : State) : Moves s (writePost word s) := by
  unfold writePost
  split
  · exact .refl
  · split
    · exact .refl
    · exact postCommand_moves _ _
    · exact postReply_moves _ _
    · exact postSample_moves _ _ _
    · exact postEvent_moves _ _ _

theorem writeRegister_moves (offset : Nat) (value : Word) (s : State) : Moves s (writeRegister offset value s) := by
  unfold writeRegister
  split
  · split
    · exact startCode_moves s
    · split
      · exact stopCode_moves s
      · split
        · exact .single .softReset
        · exact .refl
  · split
    · exact writeSetupLo_moves value s
    · split
      · exact writeSetupHi_moves value s
      · split
        · exact writePost_moves value s
        · exact .refl

theorem readTimeLo_moves (lanes : BitVec 4) (s : State) : Moves s (readTimeLo lanes s) := by
  unfold readTimeLo
  dsimp only
  split
  · exact .single (.read _)
  · exact .head (.read _) (.single (control_move _ rfl rfl rfl rfl rfl rfl))

theorem advanceTime_move (s : State) : Move s (advanceTime s) := control_move _ rfl rfl rfl rfl rfl rfl

theorem timeBaseTick_moves (next : execTimeBaseTick s = .next t) : Moves s t := by
  obtain rfl := Host.Outcome.next.inj next
  split
  · exact .refl
  · exact (takeDueExpiries_changes s).moves.tail (advanceTime_move _)

/-- Every row is made of moves. -/
theorem exec_moves {i : Instr} (next : exec i s = .next t) : Moves s t := by
  cases request : i.request with
  | some hq =>
    rw [exec_of_request request] at next
    exact onCommandFetch_moves _ next
  | none =>
    cases i with
    | start => cases next; exact busWrite_moves (startCode_moves s)
    | stop => cases next; exact busWrite_moves (stopCode_moves s)
    | reset => cases next; exact busWrite_moves (.single .softReset)
    | setupLo value => cases next; exact busWrite_moves (writeSetupLo_moves value s)
    | setupHi value => cases next; exact busWrite_moves (writeSetupHi_moves value s)
    | producerPost word | consumerPost word => cases next; exact busWrite_moves (writePost_moves word s)
    | timeLoRead lanes => cases next; exact readTimeLo_moves lanes s
    | registerWriteIgnored offset lanes value =>
      cases next
      split
      · exact busWrite_moves (writeRegister_moves offset value s)
      · exact .refl
    | hardwareReset => cases next; exact .single .hardReset
    | rstNRelease => cases next; exact .single (control_move _ rfl rfl rfl rfl rfl rfl)
    | memoryAccessGrant => exact memoryAccessGrant_moves next
    | setupReadCompletion result => exact setupReadCompletion_moves next
    | commandFetchCompletion result => exact commandFetchCompletion_moves next
    | replyWriteCompletion result => exact replyWriteCompletion_moves next
    | shadowWriteCompletion result => exact shadowWriteCompletion_moves next
    | sampleFetchCompletion n result => exact sampleFetchCompletion_moves next
    | eventWriteCompletion n result => exact eventWriteCompletion_moves next
    | overrunWriteCompletion n result => exact overrunWriteCompletion_moves next
    | completionDiscarded r epoch => exact completionDiscarded_moves next
    | silenceExpiry i => cases next; exact (expireIfDue_changes i s).moves
    | timeBaseTick => exact timeBaseTick_moves next
    | _ => cases request

end

/-- A law that every move keeps is kept by a sequence of them. -/
theorem Moves.keep {law : State → Prop} (moves : ∀ s t, Move s t → law s → law t) {s t : State} (h : Moves s t) (holds : law s) :
    law t := by
  induction h with
  | refl => exact holds
  | tail _ move ih => exact moves _ _ move ih

/-- A law that every move keeps, and that does not speak of the queue, is kept by every step. -/
theorem keptByStep_of_move {law : State → Prop} (queue : ∀ s q, law s → law (s.withPending q))
    (moves : ∀ s t, Move s t → law s → law t) : KeptByStep law := by
  intro s t holds next
  unfold step at next
  split at next
  · cases next; exact holds
  · exact (exec_moves next).keep moves (queue s _ holds)

/-- No change touches the queue. -/
theorem Change.pending {s t : State} (h : Change s t) : t.pending = s.pending := by
  cases h with
  | asserts id w w' => cases h : w'.alarmLine <;> rfl
  | clears id w w' => cases h : w'.alarmLine <;> rfl
  | _ => rfl

/-- No move touches the queue. -/
theorem Move.pending {s t : State} (h : Move s t) : t.pending = s.pending := by
  cases h with
  | change h => exact h.pending
  | fault k address named => exact faultReport_pending k address s
  | rebased => exact rebaseDeadlines_pending s
  | softReset | hardReset => exact notePins_pending _ _
  | _ => simp only [State.setAccess_pending, State.setCmd_pending, State.setReplyRing_pending, State.mapControl_pending,
      State.mapRings_pending, State.mapMau_pending, handOver_pending, State.setDelivery_pending, State.setSampleRing_pending,
      State.setEventRing_pending]

/-- Settles O3: no move that a row is made of touches the queue. -/
theorem commandsKeepTheQueue : Obligations.CommandsKeepTheQueue := by
  intro i s t next
  have moves := exec_moves next
  clear next
  induction moves with
  | refl => rfl
  | tail _ move ih => exact move.pending.trans ih

end Sys2Proof.Machine
end

section
/-!
PROOFS. The laws of single blocks are kept by every move, and so by every step: the watch state (R105), the pool (R131), the streams
(R51, R63), the fault record (R191) and the accesses (R17, R20).
-/

namespace Sys2Proof.Machine

/-! ## The tables -/

/-- An update of one entry of a table, read back. -/
theorem getElem_set_fin {α : Type} {n : Nat} (v : Vector α n) (i j : Fin n) (x : α) : (v.set i x)[j] = if i = j then x else v[j] := by
  simp only [Fin.getElem_fin, Vector.getElem_set, Fin.ext_iff]

/-- The streams, the watches, the pool and the alarm lines are as they were. -/
structure SameTables (s t : State) : Prop where
  streams : t.streams = s.streams
  watches : t.watches = s.watches
  pool : t.pool = s.pool
  alarms : t.alarms = s.alarms

/-- The streams, the watches and the pool are at their reset values, and no watch contributes to a line. -/
structure FreshTables (t : State) : Prop where
  streams : t.streams = State.reset.streams
  watches : t.watches = State.reset.watches
  pool : t.pool = []
  counts : ∀ a : Fin 4, t.alarms[a].count = 0

theorem freshTables_softReset (s : State) : FreshTables (softReset s) :=
  ⟨rfl, rfl, rfl, fun a => by simp [softReset, AlarmLine.afterSoftReset]⟩

theorem freshTables_hardReset (s : State) : FreshTables (hardReset s) :=
  ⟨rfl, rfl, rfl, fun a => by simp [hardReset, State.reset, AlarmLine.atReset]⟩

/-- What a move does to the tables: a change of the blocks, a reset, the deadlines of an entry into RUN, or nothing. -/
theorem Move.tables {s t : State} (move : Move s t) : Change s t ∨ FreshTables t ∨ t = rebaseDeadlines s ∨ SameTables s t := by
  cases move with
  | change change => exact .inl change
  | softReset => exact .inr (.inl (freshTables_softReset s))
  | hardReset => exact .inr (.inl (freshTables_hardReset s))
  | rebased => exact .inr (.inr (.inl rfl))
  | fault => exact .inr (.inr (.inr ⟨faultReport_streams _ _ _, faultReport_watches _ _ _, faultReport_pool _ _ _, faultReport_alarms _ _ _⟩))
  | _ => exact .inr (.inr (.inr ⟨rfl, rfl, rfl, rfl⟩))

/-! ## The law of the watch state (O51) -/

theorem WatchesLaw.congr {s t : State} (h : WatchesLaw s) (watches : t.watches = s.watches) : WatchesLaw t := by
  unfold WatchesLaw; rw [watches]; exact h

/-- One entry of the watch table is replaced. -/
theorem WatchesLaw.set {s t : State} {id : Fin 128} {v : Option Watch} (h : WatchesLaw s) (watches : t.watches = s.watches.set id v)
    (law : ∀ w, v = some w → WatchLaw w) : WatchesLaw t := by
  intro j w used
  rw [watches, getElem_set_fin] at used
  split at used
  · exact law w used
  · exact h j w used

theorem Change.watchesLaw {s t : State} (change : Change s t) (h : WatchesLaw s) : WatchesLaw t := by
  cases change with
  | watch id w w' used moves => exact h.set rfl (by rintro _ ⟨⟩; exact moves.law (h id w used))
  | asserts id w w' used moves =>
    exact h.set (beginContribution_watches _ _) (by rintro _ ⟨⟩; exact moves.law (h id w used))
  | clears id w w' used moves =>
    exact h.set (endContribution_watches _ _) (by rintro _ ⟨⟩; exact moves.law (h id w used))
  | create id w _ _ law => exact h.set rfl (by rintro _ ⟨⟩; exact law)
  | delete id => exact h.set rfl (by rintro _ ⟨⟩)
  | _ => exact h.congr rfl

theorem WatchesLaw.fresh {t : State} (fresh : FreshTables t) : WatchesLaw t := by
  intro id w used
  simp [fresh.watches, State.reset] at used

theorem Move.watchesLaw {s t : State} (move : Move s t) (h : WatchesLaw s) : WatchesLaw t := by
  obtain change | fresh | rfl | same := move.tables
  · exact change.watchesLaw h
  · exact .fresh fresh
  · exact h.congr (rebaseDeadlines_watches s)
  · exact h.congr same.watches

/-- Settles O51: every move keeps the law of each watch's run counter. -/
theorem stepsKeepTheWatchLaw : Obligations.StepsKeepTheWatchLaw :=
  keptByStep_of_move (fun _ _ h => h) fun _ _ move h => move.watchesLaw h

/-! ## The law of the pool (O52) -/

theorem PoolLaw.congr {s t : State} (h : PoolLaw s) (pool : t.pool = s.pool) : PoolLaw t := poolLaw_congr pool h

theorem Change.poolLaw {s t : State} (change : Change s t) (h : PoolLaw s) : PoolLaw t := by
  cases change with
  | pool p law => exact law h
  | entry n e => exact (h.sublist (List.erase_sublist (a := e))).congr rfl
  | asserts => exact h.congr (beginContribution_pool _ _)
  | clears => exact h.congr (endContribution_pool _ _)
  | _ => exact h.congr rfl

theorem PoolLaw.fresh {t : State} (fresh : FreshTables t) : PoolLaw t := by
  constructor <;> simp [fresh.pool]

theorem Move.poolLaw {s t : State} (move : Move s t) (h : PoolLaw s) : PoolLaw t := by
  obtain change | fresh | rfl | same := move.tables
  · exact change.poolLaw h
  · exact .fresh fresh
  · exact h.congr (rebaseDeadlines_pool s)
  · exact h.congr same.pool

/-- Settles O52: every move keeps the law of the pool. -/
theorem stepsKeepThePoolLaw : Obligations.StepsKeepThePoolLaw :=
  keptByStep_of_move (fun _ _ h => h.congr rfl) fun _ _ move h => move.poolLaw h

/-! ## The law of the streams (O59) -/

theorem StreamsLaw.congr {s t : State} (h : StreamsLaw s) (streams : t.streams = s.streams) : StreamsLaw t := by
  unfold StreamsLaw; rw [streams]; exact h

/-- One entry of the stream table is replaced. -/
theorem StreamsLaw.set {s t : State} {i : Fin 64} {x : Stream} (h : StreamsLaw s) (streams : t.streams = s.streams.set i x)
    (law : StreamLaw x) : StreamsLaw t := by
  intro j
  rw [streams, getElem_set_fin]
  split
  · exact law
  · exact h j

/-- A watch list is no matter of the law. -/
theorem StreamLaw.watchList {x : Stream} (h : StreamLaw x) (l : List (Fin 128)) : StreamLaw { x with watchList := l } :=
  ⟨h.deadline, h.held, h.counters⟩

theorem Change.streamsLaw {s t : State} (change : Change s t) (h : StreamsLaw s) : StreamsLaw t := by
  cases change with
  | stream i x _ law => exact h.set rfl (law (h i))
  | bind i x _ _ _ _ _ _ _ law => exact h.set rfl law
  | unbind i x _ _ _ law => exact h.set rfl (law (h i))
  | create id w => exact h.set rfl ((h w.stream).watchList _)
  | delete id w => exact h.set rfl ((h w.stream).watchList _)
  | asserts => exact h.congr (beginContribution_streams _ _)
  | clears => exact h.congr (endContribution_streams _ _)
  | _ => exact h.congr rfl

/-- The streams after a reset are UNBOUND, without deadlines and held indications. -/
theorem StreamsLaw.fresh {t : State} (streams : t.streams = State.reset.streams) : StreamsLaw t := by
  intro i
  have entry : t.streams[i] = Stream.atReset := by simp [streams, State.reset]
  rw [entry]
  exact ⟨by decide, by decide, by decide⟩

/-- A rebased stream keeps its law: a deadline is set exactly where one is due (R69). -/
theorem StreamLaw.rebase {x : Stream} (h : StreamLaw x) (z : Time) : StreamLaw (x.rebase z) := by
  unfold Stream.rebase
  split
  · rename_i inService
    unfold Stream.setDeadline
    split
    · exact h
    · exact ⟨iff_of_true rfl ⟨inService, ‹_›⟩, h.held, h.counters⟩
  · exact h

theorem Move.streamsLaw {s t : State} (move : Move s t) (h : StreamsLaw s) : StreamsLaw t := by
  obtain change | fresh | rfl | same := move.tables
  · exact change.streamsLaw h
  · exact .fresh fresh.streams
  · intro i
    simp only [rebaseDeadlines, Fin.getElem_fin, Vector.getElem_ofFn]
    exact (h i).rebase _
  · exact h.congr same.streams

/-- Settles O59: every move keeps the law of every stream. -/
theorem stepsKeepTheStreamLaw : Obligations.StepsKeepTheStreamLaw :=
  keptByStep_of_move (fun _ _ h => h) fun _ _ move h => move.streamsLaw h

/-! ## The law of the fault record (O54) -/

theorem commandRequester_ne_event (n : Fin 4) : commandRequester ≠ eventRequester n := by revert n; decide

/-- The control unit is as it was, and no setup read has been handed over. -/
theorem FaultLaw.ofControl {s t : State} (h : FaultLaw s) (control : t.control = s.control)
    (setup : setupReadInFlight t → setupReadInFlight s) : FaultLaw t :=
  h.congr (by rw [control]) (by rw [control]) (by rw [control]) (by rw [control]) (by rw [control]) (by rw [control]) setup

/-- The command requester's access is as it was. -/
theorem FaultLaw.ofAccess {s t : State} (h : FaultLaw s) (control : t.control = s.control)
    (access : t.access commandRequester = s.access commandRequester) : FaultLaw t :=
  h.ofControl control fun ⟨a, flight, setup⟩ => ⟨a, access ▸ flight, setup⟩

/-- The control unit after a fault report (R190, R191). -/
theorem FaultLaw.reported {s : State} (h : FaultLaw s) (k : FaultKind) (address : Addr) (named : k ≠ .noFault) :
    FaultLaw (faultReport k address s) := by
  have control : (faultReport k address s).control = s.control.reported k address := rfl
  unfold Control.reported at control
  split at control
  · rename_i first
    obtain ⟨-, further⟩ := h.clear first
    exact ⟨by rw [control]; simpa using named, by rw [control]; exact fun none => absurd none named, by rw [control]; simp [further],
      by rw [control]; simp, by rw [control]; simp, fun _ => .inr (by rw [control])⟩
  · rename_i later
    exact ⟨by rw [control]; simpa using later, by rw [control]; exact fun none => absurd none later,
      by rw [control]; exact Nat.min_le_left _ _, by rw [control]; simp, by rw [control]; simp, fun _ => .inr (by rw [control])⟩

/-- After a reset the engine is IDLE, with nothing recorded and nothing in flight. -/
theorem FaultLaw.idle {t : State} (engine : t.control.engine = .idle) (kind : t.control.faultKind = .noFault)
    (address : t.control.faultAddr = 0) (further : t.control.furtherFaults = 0) (heldStop : t.control.heldStop = false)
    (heldStart : t.control.heldStart = false) (access : t.access commandRequester = none) : FaultLaw t where
  kind := by simp [kind, engine]
  clear _ := ⟨address, further⟩
  further := by simp [further]
  heldStop := by simp [heldStop]
  heldStart := by simp [heldStart]
  setupRead := by rintro ⟨a, flight, -⟩; rw [access] at flight; cases flight

theorem softReset_mau (s : State) : (softReset s).mau = s.mau.afterReset := by unfold softReset; rw [notePins_mau]

theorem hardReset_mau (s : State) : (hardReset s).mau = s.mau.afterReset := by unfold hardReset; rw [notePins_mau]

/-- No access is in flight after a reset. -/
theorem access_afterReset {t : State} {m : MemoryUnit} (mau : t.mau = m.afterReset) (r : Requester) : t.access r = none := by
  rw [State.access_def, mau]
  simp [MemoryUnit.afterReset]

theorem Move.faultLaw {s t : State} (move : Move s t) (h : FaultLaw s) : FaultLaw t := by
  cases move with
  | change change => exact h.ofAccess change.control (change.access commandRequester_ne_event)
  | control f _ law => exact law h
  | loaded f _ law => exact law h
  | fault k address named => exact h.reported k address named
  | hand r p address _ _ setup =>
    refine ⟨h.kind, h.clear, h.further, h.heldStop, h.heldStart, ?_⟩
    rintro ⟨a, flight, isSetup⟩
    change (s.setAccess r _).access commandRequester = some a at flight
    rw [State.access_setAccess] at flight
    split at flight
    · obtain rfl := Option.some.inj flight
      exact .inl (setup isSetup)
    · exact h.setupRead ⟨a, flight, isSetup⟩
  | returned r =>
    refine h.ofControl rfl ?_
    rintro ⟨a, flight, setup⟩
    rw [State.access_setAccess] at flight
    split at flight
    · cases flight
    · exact ⟨a, flight, setup⟩
  | settled n d =>
    exact h.ofAccess rfl (State.access_setAccess_ne _ _ _ _ (commandRequester_ne_event n).symm)
  | phase r a p l flight =>
    refine h.ofControl rfl ?_
    rintro ⟨b, here, setup⟩
    change (s.setAccess r _).access commandRequester = some b at here
    rw [State.access_setAccess] at here
    split at here
    · obtain rfl := Option.some.inj here
      rename_i same
      exact ⟨a, same ▸ flight, setup⟩
    · exact ⟨b, here, setup⟩
  | rebased => exact h.ofAccess (rebaseDeadlines_control _) (rebaseDeadlines_access _ _)
  | softReset => exact .idle rfl rfl rfl rfl rfl rfl (access_afterReset (softReset_mau s) _)
  | hardReset => exact .idle rfl rfl rfl rfl rfl rfl (access_afterReset (hardReset_mau s) _)
  | _ => exact h.ofAccess (by simp only [State.setCmd_control, State.setReplyRing_control, State.mapRings_control, State.mapMau_control,
      State.setDelivery_control, State.setSampleRing_control, State.setEventRing_control]) rfl

/-- Settles O54: every move keeps the law of the fault record. -/
theorem stepsKeepTheFaultLaw : Obligations.StepsKeepTheFaultLaw :=
  keptByStep_of_move (fun _ _ h => h.ofAccess rfl rfl) fun _ _ move h => move.faultLaw h

/-! ## The law of the accesses (O60) -/

/-- Each access in flight is as it was or obeys the law; the epoch and the accesses of older epochs are as they were, or fewer. -/
theorem EpochLaw.of {s t : State} (h : EpochLaw s) (epoch : t.mau.epoch = s.mau.epoch) (stale : ∀ x ∈ t.mau.stale, x ∈ s.mau.stale)
    (access : ∀ r a, t.access r = some a →
      s.access r = some a ∨ (requesterMakes r a.payload = true ∧ a.epoch = s.mau.epoch)) : EpochLaw t where
  kind r a flight := (access r a flight).elim (h.kind r a) And.left
  current r a flight := by rw [epoch]; exact (access r a flight).elim (h.current r a) And.right
  older x hx := by rw [epoch]; exact h.older x (stale x hx)

/-- The memory access unit is as it was. -/
theorem EpochLaw.congr {s t : State} (h : EpochLaw s) (mau : t.mau = s.mau) : EpochLaw t :=
  h.of (by rw [mau]) (by rw [mau]; exact fun _ => id) fun r a flight => .inl (by rw [State.access_def, ← mau]; exact flight)

/-- One access of the current epoch is replaced. -/
theorem EpochLaw.set {s : State} (h : EpochLaw s) (r : Requester) (v : Option Access)
    (law : ∀ a, v = some a → requesterMakes r a.payload = true ∧ a.epoch = s.mau.epoch) : EpochLaw (s.setAccess r v) := by
  refine h.of rfl (fun _ => id) fun q a flight => ?_
  rw [State.access_setAccess] at flight
  split at flight
  · rename_i same; exact .inr (same ▸ law a flight)
  · exact .inl flight

theorem EpochLaw.handOver {s : State} (h : EpochLaw s) {r : Requester} {p : Payload} (address : Addr) (makes : requesterMakes r p = true) :
    EpochLaw (handOver r p address s) :=
  h.set r _ (by rintro _ ⟨⟩; exact ⟨makes, rfl⟩)

/-- An event ring's requester makes event record writes (R17). -/
theorem requesterMakes_event (n : Fin 4) (r : EventRecord) : requesterMakes (eventRequester n) (.eventWrite r) = true := by
  have value : (eventRequester n).val = 11 + n.val := rfl
  simp [requesterMakes, value]

/-- The accesses on the host link, with their requesters (R18). -/
theorem MemoryUnit.mem_onLink {m : MemoryUnit} {x : Requester × Access} :
    x ∈ m.onLink ↔ m.inFlight[x.1] = some x.2 ∧ x.2.phase = .onLink := by
  unfold MemoryUnit.onLink
  simp only [List.mem_filterMap, List.mem_finRange, true_and]
  constructor
  · rintro ⟨r, h⟩
    split at h
    · rename_i a flight
      split at h
      · obtain rfl := Option.some.inj h; exact ⟨flight, ‹_›⟩
      · cases h
    · cases h
  · rintro ⟨flight, phase⟩
    exact ⟨x.1, by rw [flight]; simp [phase]⟩

theorem Change.epochLaw {s t : State} (change : Change s t) (h : EpochLaw s) : EpochLaw t := by
  cases change with
  | overrun n => exact h.handOver _ (requesterMakes_event n _)
  | entry n e => exact EpochLaw.handOver (s := s.setPool (s.pool.erase e)) (h.congr rfl) _ (requesterMakes_event n _)
  | asserts id w w' => exact h.congr (by cases w'.alarmLine <;> rfl)
  | clears id w w' => exact h.congr (by cases w'.alarmLine <;> rfl)
  | _ => exact h.congr rfl

/-- After a reset nothing is in flight, and what was on the link is of an older epoch (R20). -/
theorem EpochLaw.afterReset {s t : State} (h : EpochLaw s) (mau : t.mau = s.mau.afterReset) : EpochLaw t where
  kind r a flight := by rw [access_afterReset mau] at flight; cases flight
  current r a flight := by rw [access_afterReset mau] at flight; cases flight
  older x hx := by
    have epoch : t.mau.epoch = s.mau.epoch + 1 := by rw [mau]; rfl
    have stale : t.mau.stale = s.mau.stale ++ s.mau.onLink := by rw [mau]; rfl
    rw [stale, List.mem_append] at hx
    rw [epoch]
    obtain older | onLink := hx
    · exact Nat.lt_succ_of_lt (h.older x older)
    · obtain ⟨flight, -⟩ := MemoryUnit.mem_onLink.1 onLink
      rw [h.current x.1 x.2 flight]
      exact Nat.lt_succ_self _

theorem Move.epochLaw {s t : State} (move : Move s t) (h : EpochLaw s) : EpochLaw t := by
  cases move with
  | change change => exact change.epochLaw h
  | hand r p address makes => exact h.handOver address makes
  | returned r => exact h.set r none (by rintro _ ⟨⟩)
  | loaded f => exact (h.set commandRequester none (by rintro _ ⟨⟩)).congr rfl
  | settled n d => exact (h.set (eventRequester n) none (by rintro _ ⟨⟩)).congr rfl
  | phase r a p l flight =>
    refine (h.set r (some { a with phase := p }) ?_).of rfl (fun _ => id) fun _ _ => .inl
    rintro _ ⟨⟩
    exact ⟨h.kind r a flight, h.current r a flight⟩
  | stale l sub => exact h.of rfl sub fun _ _ => .inl
  | softReset => exact h.afterReset (softReset_mau s)
  | hardReset => exact h.afterReset (hardReset_mau s)
  | rebased => exact h.congr (by simp only [rebaseDeadlines])
  | _ => exact h.congr rfl

/-- Settles O60: every move keeps the law of the accesses. -/
theorem stepsKeepTheEpochLaw : Obligations.StepsKeepTheEpochLaw :=
  keptByStep_of_move (fun _ _ h => h.congr rfl) fun _ _ move h => move.epochLaw h

end Sys2Proof.Machine
end

section
/-!
PROOFS. The laws between the tables: the contribution counts (R161), and the watch lists (R53, R86).
-/

namespace Sys2Proof.Machine

/-! ## The contribution counts (O50) -/

theorem countP_eq_sum {α : Type} (p : α → Bool) (l : List α) : l.countP p = (l.map fun x => (p x).toNat).sum := by
  induction l with
  | nil => rfl
  | cons x l ih => rw [List.countP_cons, ih, List.map_cons, List.sum_cons, Nat.add_comm]; cases p x <;> rfl

/-- The contributors of a line, each counted once. -/
theorem contributors_eq_sum (a : Fin 4) (s : State) : contributors a s = ∑ id : Fin 128, (contributes a s.watches[id]).toNat := by
  rw [contributors, ← List.countP_eq_length_filter, countP_eq_sum, Fin.sum_univ_def]

theorem contributors_congr (a : Fin 4) {s t : State} (watches : t.watches = s.watches) : contributors a t = contributors a s := by
  unfold contributors; rw [watches]

/-- One entry of the watch table is replaced. -/
theorem contributors_set (a : Fin 4) {s t : State} {id : Fin 128} {v : Option Watch} (watches : t.watches = s.watches.set id v) :
    contributors a t + (contributes a s.watches[id]).toNat = contributors a s + (contributes a v).toNat := by
  have others : ∑ j ∈ Finset.univ.erase id, (contributes a t.watches[j]).toNat
      = ∑ j ∈ Finset.univ.erase id, (contributes a s.watches[j]).toNat := by
    refine Finset.sum_congr rfl fun j hj => ?_
    have : id.val ≠ j.val := fun e => Finset.ne_of_mem_erase hj (Fin.ext e.symm)
    rw [watches, Fin.getElem_fin, Vector.getElem_set_ne _ _ this]; rfl
  have new : t.watches[id] = v := by rw [watches]; simp
  rw [contributors_eq_sum, contributors_eq_sum, ← Finset.add_sum_erase _ _ (Finset.mem_univ id),
    ← Finset.add_sum_erase (a := id) Finset.univ _ (Finset.mem_univ id), others, new]
  omega

theorem beginContribution_count (line : Option (Fin 4)) (s : State) (a : Fin 4) :
    (beginContribution line s).alarms[a].count = s.alarms[a].count + (line == some a).toNat := by
  cases line with
  | none => rfl
  | some b =>
    rw [beginContribution, State.setAlarm_alarms, getElem_set_fin]
    by_cases same : b = a
    · subst same; simp [AlarmLine.beginReport]
    · rw [if_neg same, beq_eq_false_iff_ne.2 (by simpa using same)]; rfl

theorem endContribution_count (line : Option (Fin 4)) (s : State) (a : Fin 4) :
    (endContribution line s).alarms[a].count = s.alarms[a].count - (line == some a).toNat := by
  cases line with
  | none => rfl
  | some b =>
    rw [endContribution, State.setAlarm_alarms, getElem_set_fin]
    by_cases same : b = a
    · subst same; simp [AlarmLine.endReport]
    · rw [if_neg same, beq_eq_false_iff_ne.2 (by simpa using same)]; rfl

theorem contributes_some (a : Fin 4) (w : Watch) : contributes a (some w) = (w.alarmLine == some a && w.state.onAlarmSide) := rfl

theorem contributes_of_side {a : Fin 4} {w : Watch} (side : w.state.onAlarmSide = false) : contributes a (some w) = false := by
  rw [contributes_some, side, Bool.and_false]

theorem ContributionLaw.congr {s t : State} (h : ContributionLaw s) (watches : t.watches = s.watches)
    (counts : ∀ a : Fin 4, t.alarms[a].count = s.alarms[a].count) : ContributionLaw t := fun a => by
  rw [counts a, contributors_congr a watches]; exact h a

/-- A watch that begins, ends or keeps its contribution is replaced by one that contributes as the counts say. -/
theorem ContributionLaw.set {s t : State} {id : Fin 128} {v : Option Watch} (h : ContributionLaw s)
    (watches : t.watches = s.watches.set id v)
    (counts : ∀ a : Fin 4, contributors a s = s.alarms[a].count →
      t.alarms[a].count + (contributes a s.watches[id]).toNat = s.alarms[a].count + (contributes a v).toNat) : ContributionLaw t := by
  intro a
  have := contributors_set a watches
  have := counts a (h a).symm
  have := h a
  omega

/-- A watch on the alarm side is one of the contributors of its line. -/
theorem contributes_le (a : Fin 4) (id : Fin 128) (s : State) : (contributes a s.watches[id]).toNat ≤ contributors a s := by
  rw [contributors_eq_sum]
  exact Finset.single_le_sum (f := fun j : Fin 128 => (contributes a s.watches[j]).toNat) (fun _ _ => Nat.zero_le _) (Finset.mem_univ id)

theorem Change.contributionLaw {s t : State} (change : Change s t) (h : ContributionLaw s) : ContributionLaw t := by
  cases change with
  | watch id w w' used moves =>
    refine h.set rfl fun a _ => ?_
    have side : w'.state.onAlarmSide = w.state.onAlarmSide := moves.side
    rw [used, contributes_some, contributes_some, side, moves.statics.alarmLine]; rfl
  | asserts id w w' used moves =>
    refine h.set (beginContribution_watches _ _) fun a _ => ?_
    obtain ⟨before, after⟩ : w.state.onAlarmSide = false ∧ w'.state.onAlarmSide = true := moves.side
    rw [used, contributes_of_side before, contributes_some, after, beginContribution_count, Bool.and_true]; rfl
  | clears id w w' used moves =>
    refine h.set (endContribution_watches _ _) fun a total => ?_
    obtain ⟨before, after⟩ : w.state.onAlarmSide = true ∧ w'.state.onAlarmSide = false := moves.side
    have least := contributes_le a id s
    rw [used, contributes_some, before, Bool.and_true, total] at least
    rw [used, contributes_of_side after, contributes_some, before, endContribution_count, Bool.and_true, moves.statics.alarmLine]
    simp only [State.setWatch_alarms, Bool.toNat_false]
    omega
  | create id w free side =>
    refine h.set rfl fun a _ => ?_
    rw [free, contributes_of_side side]; rfl
  | delete id w used side =>
    refine h.set rfl fun a _ => ?_
    rw [used, contributes_of_side side]; rfl
  | alarm b l count =>
    refine h.congr rfl fun a => ?_
    rw [State.setAlarm_alarms, getElem_set_fin]
    split
    · rename_i same; rw [count, same]
    · rfl
  | _ => exact h.congr rfl fun _ => rfl

theorem ContributionLaw.fresh {t : State} (fresh : FreshTables t) : ContributionLaw t := by
  intro a
  rw [fresh.counts, contributors, fresh.watches]
  simp [State.reset, contributes]

theorem Move.contributionLaw {s t : State} (move : Move s t) (h : ContributionLaw s) : ContributionLaw t := by
  obtain change | fresh | rfl | same := move.tables
  · exact change.contributionLaw h
  · exact .fresh fresh
  · exact h.congr (rebaseDeadlines_watches s) fun a => by rw [rebaseDeadlines_alarms]
  · exact h.congr same.watches fun a => by rw [same.alarms]

/-- Settles O50: every move keeps the contribution counts. -/
theorem stepsKeepTheContributionCounts : Obligations.StepsKeepTheContributionCounts :=
  keptByStep_of_move (fun _ _ h => h.congr rfl fun _ => rfl) fun _ _ move h => move.contributionLaw h

/-! ## The watch lists (O57) -/

/-- What R53 says of one stream's list. -/
def ListLaw (x : Stream) : Prop :=
  x.watchList.Pairwise (· < ·) ∧ x.watchList.length ≤ 8 ∧ (x.state = .unbound → x.watchList = [])

/-- The stream of a watch in use. -/
def watchStream (v : Option Watch) : Option (Fin 64) := v.map Watch.stream

/-- The law of the watch lists: each list obeys R53, and it holds an id exactly where the watch is of its stream (R86). -/
theorem watchListLaw_iff {s : State} : WatchListLaw s ↔
    (∀ i : Fin 64, ListLaw s.streams[i]) ∧
    ∀ (i : Fin 64) (id : Fin 128), id ∈ s.streams[i].watchList ↔ watchStream s.watches[id] = some i := by
  constructor
  · intro h
    refine ⟨fun i => ⟨h.ascending i, h.length i, h.unbound i⟩, fun i id => ⟨fun mem => ?_, fun stream => ?_⟩⟩
    · obtain ⟨w, used, stream⟩ := h.inUse i id mem
      rw [used, ← stream]; rfl
    · obtain ⟨w, used, stream⟩ := Option.map_eq_some_iff.1 stream
      exact stream ▸ h.listed id w used
  · rintro ⟨lists, names⟩
    refine ⟨fun i => (lists i).1, fun i => (lists i).2.1, fun i => (lists i).2.2, fun id w used => ?_, fun i id mem => ?_⟩
    · rw [names, used]; rfl
    · exact Option.map_eq_some_iff.1 ((names i id).1 mem)

/-- The lists and the watches are as they were, and no stream with a list becomes UNBOUND. -/
theorem WatchListLaw.congr {s t : State} (h : WatchListLaw s)
    (lists : ∀ i : Fin 64, t.streams[i].watchList = s.streams[i].watchList ∧
      (t.streams[i].state = .unbound → s.streams[i].state = .unbound ∨ s.streams[i].watchList = []))
    (watches : ∀ id : Fin 128, watchStream t.watches[id] = watchStream s.watches[id]) : WatchListLaw t := by
  rw [watchListLaw_iff] at h ⊢
  obtain ⟨each, names⟩ := h
  refine ⟨fun i => ?_, fun i id => by rw [(lists i).1, watches]; exact names i id⟩
  obtain ⟨ascending, length, unbound⟩ := each i
  obtain ⟨list, state⟩ := lists i
  unfold ListLaw
  rw [list]
  exact ⟨ascending, length, fun none => (state none).elim unbound id⟩

/-- The watch table is replaced at one entry by a watch of the same stream. -/
theorem watchStream_set {s : State} {id : Fin 128} {w w' : Watch} (used : s.watches[id] = some w) (stream : w'.stream = w.stream)
    (j : Fin 128) : watchStream (s.watches.set id (some w'))[j] = watchStream s.watches[j] := by
  rw [getElem_set_fin]
  split
  · rename_i same
    rw [← same, used]
    exact congrArg some stream
  · rfl

theorem mem_insertId {id x : Fin 128} {l : List (Fin 128)} : x ∈ insertId id l ↔ x = id ∨ x ∈ l := by
  induction l with
  | nil => simp [insertId]
  | cons y l ih => unfold insertId; split <;> simp [ih, or_left_comm]

theorem length_insertId (id : Fin 128) (l : List (Fin 128)) : (insertId id l).length = l.length + 1 := by
  induction l with
  | nil => rfl
  | cons y l ih => unfold insertId; split <;> simp [ih]

theorem ascending_insertId {id : Fin 128} {l : List (Fin 128)} (h : l.Pairwise (· < ·)) (absent : id ∉ l) :
    (insertId id l).Pairwise (· < ·) := by
  induction l with
  | nil => simp [insertId]
  | cons y l ih =>
    obtain ⟨least, rest⟩ := List.pairwise_cons.1 h
    rw [List.mem_cons, not_or] at absent
    unfold insertId
    split
    · rename_i below
      exact List.pairwise_cons.2 ⟨by rintro z (_ | ⟨_, hz⟩); exacts [below, below.trans (least z hz)], h⟩
    · rename_i above
      refine List.pairwise_cons.2 ⟨fun z hz => ?_, ih rest absent.2⟩
      obtain rfl | hz := mem_insertId.1 hz
      · exact lt_of_le_of_ne (not_lt.1 above) (Ne.symm absent.1)
      · exact least z hz

theorem mem_removeId {id x : Fin 128} {l : List (Fin 128)} : x ∈ removeId id l ↔ x ∈ l ∧ x ≠ id := by simp [removeId]

/-- A watch is created on a bound stream with room in its list (R86, R87). -/
theorem WatchListLaw.create {s t : State} {id : Fin 128} {w : Watch} (h : WatchListLaw s) (free : s.watches[id] = none)
    (bound : s.streams[w.stream].isBound = true) (room : s.streams[w.stream].watchList.length < 8)
    (watches : t.watches = s.watches.set id (some w))
    (streams : t.streams = s.streams.set w.stream
      { s.streams[w.stream] with watchList := insertId id s.streams[w.stream].watchList }) : WatchListLaw t := by
  rw [watchListLaw_iff] at h ⊢
  obtain ⟨each, names⟩ := h
  have absent (i : Fin 64) : id ∉ s.streams[i].watchList := by rw [names, free]; simp [watchStream]
  rw [streams, watches]
  refine ⟨fun i => ?_, fun i j => ?_⟩
  · rw [getElem_set_fin]
    split
    · obtain ⟨ascending, -, -⟩ := each w.stream
      refine ⟨ascending_insertId ascending (absent _), by rw [length_insertId]; exact room, fun unbound => ?_⟩
      exact absurd (bound.symm.trans (Stream.isBound_eq_false_iff.2 unbound)) (by decide)
    · exact each i
  · rw [getElem_set_fin, getElem_set_fin]
    have old := names i j
    by_cases stream : w.stream = i <;> by_cases same : id = j
    · subst stream; subst same; simp [mem_insertId, watchStream]
    · subst stream; rw [if_pos rfl, if_neg same, mem_insertId]; simpa [Ne.symm same] using old
    · subst same; rw [if_neg stream, if_pos rfl]; simpa [watchStream, stream] using absent i
    · rw [if_neg stream, if_neg same]; exact old

/-- A watch is deleted (R96). -/
theorem WatchListLaw.delete {s t : State} {id : Fin 128} {w : Watch} (h : WatchListLaw s) (used : s.watches[id] = some w)
    (watches : t.watches = s.watches.set id none)
    (streams : t.streams = s.streams.set w.stream
      { s.streams[w.stream] with watchList := removeId id s.streams[w.stream].watchList }) : WatchListLaw t := by
  rw [watchListLaw_iff] at h ⊢
  obtain ⟨each, names⟩ := h
  have elsewhere (i : Fin 64) (ne : w.stream ≠ i) : id ∉ s.streams[i].watchList := by rw [names, used]; simpa [watchStream] using ne
  rw [streams, watches]
  refine ⟨fun i => ?_, fun i j => ?_⟩
  · rw [getElem_set_fin]
    split
    · obtain ⟨ascending, length, unbound⟩ := each w.stream
      refine ⟨ascending.filter _, (List.length_filter_le _ _).trans length, fun none => ?_⟩
      show removeId id s.streams[w.stream].watchList = []
      rw [unbound none]; rfl
    · exact each i
  · rw [getElem_set_fin, getElem_set_fin]
    have old := names i j
    by_cases stream : w.stream = i <;> by_cases same : id = j
    · subst stream; subst same; simp [mem_removeId, watchStream]
    · subst stream; rw [if_pos rfl, if_neg same, mem_removeId]; simpa [Ne.symm same] using old
    · subst same; rw [if_neg stream, if_pos rfl]; simpa [watchStream] using elsewhere i stream
    · rw [if_neg stream, if_neg same]; exact old

/-- A stream is replaced by one with the same list. -/
theorem WatchListLaw.setStream {s : State} {i : Fin 64} {x : Stream} (h : WatchListLaw s) (list : x.watchList = s.streams[i].watchList)
    (state : x.state = .unbound → s.streams[i].state = .unbound ∨ s.streams[i].watchList = []) : WatchListLaw (s.setStream i x) := by
  refine h.congr (fun j => ?_) fun _ => rfl
  rw [State.setStream_streams, getElem_set_fin]
  split
  · rename_i same
    exact same ▸ ⟨list, state⟩
  · exact ⟨rfl, .inl⟩

theorem Change.watchListLaw {s t : State} (change : Change s t) (h : WatchListLaw s) : WatchListLaw t := by
  cases change with
  | stream i x binding =>
    refine h.setStream binding.watchList fun none => .inl ?_
    rw [← Stream.isBound_eq_false_iff, ← binding.bound, Stream.isBound_eq_false_iff]; exact none
  | bind i x before _ list =>
    exact h.setStream (list.trans (h.unbound i (Stream.isBound_eq_false_iff.1 before)).symm) fun _ => .inl (Stream.isBound_eq_false_iff.1 before)
  | unbind i x before _ list => exact h.setStream (list.trans before.symm) fun _ => .inr before
  | watch id w w' used moves => exact h.congr (fun _ => ⟨rfl, .inl⟩) (watchStream_set used moves.statics.stream)
  | asserts id w w' used moves =>
    exact h.congr (fun i => by rw [beginContribution_streams]; exact ⟨rfl, .inl⟩)
      (by rw [beginContribution_watches]; exact watchStream_set used moves.statics.stream)
  | clears id w w' used moves =>
    exact h.congr (fun i => by rw [endContribution_streams]; exact ⟨rfl, .inl⟩)
      (by rw [endContribution_watches]; exact watchStream_set used moves.statics.stream)
  | create id w free _ _ bound room => exact h.create free bound room rfl rfl
  | delete id w used => exact h.delete used rfl rfl
  | _ => exact h.congr (fun _ => ⟨rfl, .inl⟩) fun _ => rfl

theorem WatchListLaw.fresh {t : State} (fresh : FreshTables t) : WatchListLaw t := by
  rw [watchListLaw_iff, fresh.streams, fresh.watches]
  have entry (i : Fin 64) : State.reset.streams[i] = Stream.atReset := by simp [State.reset]
  refine ⟨fun i => ?_, fun i id => ?_⟩
  · rw [entry]; exact ⟨.nil, Nat.zero_le _, fun _ => rfl⟩
  · rw [entry]; simp [State.reset, watchStream, Stream.atReset]

theorem Move.watchListLaw {s t : State} (move : Move s t) (h : WatchListLaw s) : WatchListLaw t := by
  obtain change | fresh | rfl | same := move.tables
  · exact change.watchListLaw h
  · exact .fresh fresh
  · refine h.congr (fun i => ?_) fun id => by rw [rebaseDeadlines_watches]
    simp only [rebaseDeadlines, Fin.getElem_fin, Vector.getElem_ofFn]
    unfold Stream.rebase Stream.setDeadline
    split
    · split <;> exact ⟨rfl, .inl⟩
    · exact ⟨rfl, .inl⟩
  · exact h.congr (fun i => by rw [same.streams]; exact ⟨rfl, .inl⟩) fun id => by rw [same.watches]

/-- Settles O57: every move keeps the watch lists. -/
theorem stepsKeepTheWatchLists : Obligations.StepsKeepTheWatchLists :=
  keptByStep_of_move (fun _ _ h => h.congr (fun _ => ⟨rfl, .inl⟩) fun _ => rfl) fun _ _ move h => move.watchListLaw h

end Sys2Proof.Machine
end

section
/-!
PROOFS. The alarm lines (R165) and the pins (R162, R195): every update of what a pin follows notes the change in the record.
-/

namespace Sys2Proof.Machine

/-! ## The record of the pin changes -/

/-- Later changes come after the earlier ones. -/
theorem levelAfter_append (c d : List PinChange) (p : Pin) :
    levelAfter (c ++ d) p = (((d.filter fun x => x.pin == p).map PinChange.high).getLast?).getD (levelAfter c p) := by
  unfold levelAfter
  rw [List.filter_append, List.map_append, List.getLast?_append]
  cases ((d.filter fun x => x.pin == p).map PinChange.high).getLast? <;> simp

/-- A pin that was at the level before is at the level after. -/
theorem levelAfter_pinStep {c : List PinChange} {p : Pin} {before after : Bool} (h : levelAfter c p = before) :
    levelAfter (c ++ pinStep p before after) p = after := by
  rw [levelAfter_append, h]
  unfold pinStep
  split
  · rename_i same; exact same
  · simp

/-- A change of one pin is none of another. -/
theorem levelAfter_pinStep_ne {c : List PinChange} {p q : Pin} {before after : Bool} (ne : p ≠ q) :
    levelAfter (c ++ pinStep p before after) q = levelAfter c q := by
  rw [levelAfter_append]
  unfold pinStep
  split
  · rfl
  · simp [ne]

/-! ## The pins -/

/-- What ATTN_N follows is as it was (R195). -/
theorem attention_of {s t : State} (reply : t.rings.reply = s.rings.reply) (sample : t.rings.sample = s.rings.sample)
    (event : t.rings.event = s.rings.event) (engine : t.control.engine = .fault ↔ s.control.engine = .fault) :
    attention t = attention s := by
  have engines : (t.control.engine == .fault) = (s.control.engine == .fault) := by rw [Bool.eq_iff_iff, beq_iff_eq, beq_iff_eq]; exact engine
  unfold attention
  rw [reply, sample, event, engines]

theorem PinsLaw.attn {s : State} (h : PinsLaw s) : levelAfter s.pinChanges .attn = !attention s := (h .attn).symm

theorem PinsLaw.alm {s : State} (h : PinsLaw s) (a : Fin 4) : levelAfter s.pinChanges (.alm a) = s.alarms[a].asserted := (h (.alm a)).symm

/-- What the pins follow is as it was, and nothing is noted. -/
theorem PinsLaw.congr {s t : State} (h : PinsLaw s) (att : attention t = attention s)
    (asserted : ∀ a : Fin 4, t.alarms[a].asserted = s.alarms[a].asserted) (record : t.pinChanges = s.pinChanges) : PinsLaw t := by
  intro p
  rw [record, ← h p]
  cases p with
  | attn => exact congrArg not att
  | alm a => exact asserted a

/-- The change of ATTN_N is noted. -/
theorem PinsLaw.noteAttention {s t : State} (h : PinsLaw s) (alarms : t.alarms = s.alarms) (record : t.pinChanges = s.pinChanges) :
    PinsLaw (noteAttention s t) := by
  intro p
  rw [noteAttention_pinChanges, record]
  cases p with
  | attn => rw [levelAfter_pinStep h.attn]; rfl
  | alm a => rw [levelAfter_pinStep_ne (by rintro ⟨⟩), ← h]; exact congrArg (fun v : Vector AlarmLine 4 => v[a].asserted) alarms

/-- The change of a line's pin is noted. -/
theorem PinsLaw.setAlarm {s : State} (h : PinsLaw s) (a : Fin 4) (l : AlarmLine) : PinsLaw (s.setAlarm a l) := by
  intro p
  rw [State.setAlarm_pinChanges]
  cases p with
  | attn => rw [levelAfter_pinStep_ne (by rintro ⟨⟩), ← h]; rfl
  | alm b =>
    by_cases same : a = b
    · subst same
      rw [levelAfter_pinStep (h.alm a)]
      simp [pinHigh]
    · rw [levelAfter_pinStep_ne (by simpa using same), ← h]
      simp only [pinHigh, State.setAlarm_alarms, getElem_set_fin, if_neg same]

/-- The changes of the lines' pins, one line after another. -/
theorem levelAfter_flatMap {before after : Fin 4 → Bool} {l : List (Fin 4)} (distinct : l.Nodup) (c : List PinChange)
    (h : ∀ a ∈ l, levelAfter c (.alm a) = before a) :
    (∀ a ∈ l, levelAfter (c ++ l.flatMap fun a => pinStep (.alm a) (before a) (after a)) (.alm a) = after a) ∧
    ∀ p, (∀ a ∈ l, p ≠ .alm a) → levelAfter (c ++ l.flatMap fun a => pinStep (.alm a) (before a) (after a)) p = levelAfter c p := by
  induction l generalizing c with
  | nil => exact ⟨by simp, by simp⟩
  | cons b l ih =>
    obtain ⟨absent, distinct⟩ := List.nodup_cons.1 distinct
    have others (a : Fin 4) (ha : a ∈ l) : (Pin.alm b) ≠ .alm a := by rintro ⟨⟩; exact absent ha
    obtain ⟨inside, outside⟩ := ih distinct (c ++ pinStep (.alm b) (before b) (after b)) fun a ha => by
      rw [levelAfter_pinStep_ne (others a ha)]; exact h a (List.mem_cons_of_mem _ ha)
    rw [List.flatMap_cons, ← List.append_assoc]
    refine ⟨fun a ha => ?_, fun p hp => ?_⟩
    · obtain rfl | ha := List.mem_cons.1 ha
      · rw [outside _ others]; exact levelAfter_pinStep (h a List.mem_cons_self)
      · exact inside a ha
    · rw [outside p fun a ha => hp a (List.mem_cons_of_mem _ ha)]
      exact levelAfter_pinStep_ne (hp b List.mem_cons_self).symm

/-- The changes of all five pins are noted. -/
theorem PinsLaw.notePins {s t : State} (h : PinsLaw s) (record : t.pinChanges = s.pinChanges) : PinsLaw (notePins s t) := by
  have noted := levelAfter_flatMap (before := fun a => s.alarms[a].asserted) (after := fun a => t.alarms[a].asserted)
    (List.nodup_finRange 4) (s.pinChanges ++ pinStep .attn (!attention s) (!attention t)) fun a _ => by
      rw [levelAfter_pinStep_ne (by rintro ⟨⟩), ← h]; rfl
  intro p
  rw [notePins_pinChanges, record, ← List.append_assoc]
  cases p with
  | attn => rw [noted.2 _ (by rintro a _ ⟨⟩), levelAfter_pinStep h.attn]; rfl
  | alm a => rw [noted.1 a (List.mem_finRange a)]; rfl

/-! ## The alarm lines -/

theorem AlarmLineLaw.beginReport (l : AlarmLine) (h : AlarmLineLaw l) : AlarmLineLaw l.beginReport := by
  constructor
  · intro follow
    have mode : l.mode = .follow := follow
    simp [AlarmLine.beginReport, mode]
  · intro latch _
    have mode : l.mode = .latch := latch
    have active := h.2 mode
    simp only [AlarmLine.beginReport, mode, Bool.or_eq_true, beq_iff_eq]
    exact (Nat.eq_zero_or_pos l.count).symm.imp_left active

theorem AlarmLineLaw.endReport (l : AlarmLine) (h : AlarmLineLaw l) : AlarmLineLaw l.endReport := by
  constructor
  · intro follow
    have mode : l.mode = .follow := follow
    simp [AlarmLine.endReport, mode]
  · intro latch active
    have mode : l.mode = .latch := latch
    have left : 0 < l.count - 1 := active
    simpa [AlarmLine.endReport, mode] using h.2 mode (by omega)

/-- One line is replaced. -/
theorem AlarmLaw.setAlarm {s : State} (h : AlarmLaw s) {a : Fin 4} {l : AlarmLine} (law : AlarmLineLaw l) : AlarmLaw (s.setAlarm a l) := by
  intro b
  rw [State.setAlarm_alarms, getElem_set_fin]
  split
  · exact law
  · exact h b

theorem AlarmLaw.congr {s t : State} (h : AlarmLaw s) (alarms : t.alarms = s.alarms) : AlarmLaw t := by
  unfold AlarmLaw; rw [alarms]; exact h

/-- The two laws of the alarm unit. -/
def AlarmPinsLaw (s : State) : Prop := AlarmLaw s ∧ PinsLaw s

theorem AlarmPinsLaw.congr {s t : State} (h : AlarmPinsLaw s) (alarms : t.alarms = s.alarms) (record : t.pinChanges = s.pinChanges)
    (att : attention t = attention s) : AlarmPinsLaw t :=
  ⟨h.1.congr alarms, h.2.congr att (fun a => by rw [alarms]) record⟩

theorem AlarmPinsLaw.noteAttention {s t : State} (h : AlarmPinsLaw s) (alarms : t.alarms = s.alarms)
    (record : t.pinChanges = s.pinChanges) : AlarmPinsLaw (noteAttention s t) :=
  ⟨h.1.congr alarms, h.2.noteAttention alarms record⟩

theorem AlarmPinsLaw.setSampleRing {s : State} (h : AlarmPinsLaw s) (n : Fin 8) (d : SampleRing) : AlarmPinsLaw (s.setSampleRing n d) :=
  h.noteAttention rfl rfl

theorem AlarmPinsLaw.setEventRing {s : State} (h : AlarmPinsLaw s) (n : Fin 4) (d : EventRing) : AlarmPinsLaw (s.setEventRing n d) :=
  h.noteAttention rfl rfl

theorem AlarmPinsLaw.setAlarm {s : State} (h : AlarmPinsLaw s) {a : Fin 4} {l : AlarmLine} (law : AlarmLineLaw l) :
    AlarmPinsLaw (s.setAlarm a l) := ⟨h.1.setAlarm law, h.2.setAlarm a l⟩

theorem AlarmPinsLaw.beginReport {s : State} (h : AlarmPinsLaw s) (line : Option (Fin 4)) : AlarmPinsLaw (beginContribution line s) := by
  cases line with
  | none => exact h
  | some a => exact h.setAlarm (AlarmLineLaw.beginReport _ (h.1 a))

theorem AlarmPinsLaw.endReport {s : State} (h : AlarmPinsLaw s) (line : Option (Fin 4)) : AlarmPinsLaw (endContribution line s) := by
  cases line with
  | none => exact h
  | some a => exact h.setAlarm (AlarmLineLaw.endReport _ (h.1 a))

/-- The command engine and the delivery states are no matter of the pins. -/
theorem AlarmPinsLaw.setCmd {s : State} (h : AlarmPinsLaw s) (c : CommandEngine) : AlarmPinsLaw (s.setCmd c) := h.congr rfl rfl rfl

theorem AlarmPinsLaw.setDelivery {s : State} (h : AlarmPinsLaw s) (n : Fin 4) (d : Delivery) : AlarmPinsLaw (s.setDelivery n d) :=
  h.congr rfl rfl rfl

theorem AlarmPinsLaw.setWatch {s : State} (h : AlarmPinsLaw s) (id : Fin 128) (v : Option Watch) : AlarmPinsLaw (s.setWatch id v) :=
  h.congr rfl rfl rfl

theorem Change.alarmPinsLaw {s t : State} (change : Change s t) (h : AlarmPinsLaw s) : AlarmPinsLaw t := by
  cases change with
  | asserts id w w' => exact (h.setWatch _ _).beginReport _
  | clears id w w' => exact (h.setWatch _ _).endReport _
  | sampleRing n r => exact h.setSampleRing n r
  | eventRing n r => exact h.setEventRing n r
  | alarm a l _ law => exact h.setAlarm (law (h.1 a))
  | _ => exact h.congr rfl rfl rfl

theorem AlarmLineLaw.afterSoftReset (l : AlarmLine) : AlarmLineLaw l.afterSoftReset :=
  ⟨fun follow => by simp [AlarmLine.afterSoftReset, show l.mode = .follow from follow], fun _ active => absurd active (Nat.lt_irrefl 0)⟩

theorem AlarmPinsLaw.notePins {s t : State} (h : PinsLaw s) (law : AlarmLaw t) (record : t.pinChanges = s.pinChanges) :
    AlarmPinsLaw (notePins s t) := ⟨law.congr rfl, h.notePins record⟩

theorem AlarmPinsLaw.softReset {s : State} (h : AlarmPinsLaw s) : AlarmPinsLaw (softReset s) := by
  unfold Machine.softReset
  refine .notePins h.2 (fun a => ?_) rfl
  simp only [Fin.getElem_fin, Vector.getElem_ofFn]
  exact AlarmLineLaw.afterSoftReset _

theorem AlarmPinsLaw.hardReset {s : State} (h : AlarmPinsLaw s) : AlarmPinsLaw (hardReset s) := by
  unfold Machine.hardReset
  refine .notePins h.2 (fun a => ?_) rfl
  have line : State.reset.alarms[a] = AlarmLine.atReset := by simp [State.reset]
  show AlarmLineLaw State.reset.alarms[a]
  rw [line]
  exact ⟨by decide, by decide⟩

theorem Move.alarmPinsLaw {s t : State} (move : Move s t) (h : AlarmPinsLaw s) : AlarmPinsLaw t := by
  cases move with
  | change change => exact change.alarmPinsLaw h
  | control f fault => exact h.congr rfl rfl (attention_of rfl rfl rfl fault)
  | loaded f fault => exact h.congr rfl rfl (attention_of rfl rfl rfl fault)
  | fault k address => exact h.noteAttention rfl rfl
  | replyRing d => exact h.noteAttention rfl rfl
  | rebased => 
    exact h.congr (rebaseDeadlines_alarms s) (rebaseDeadlines_pinChanges s)
      (attention_congr (rebaseDeadlines_rings s) (by rw [rebaseDeadlines_control]))
  | sampleClosed n c => exact (h.setSampleRing n _).setCmd c
  | sampleOpened n base slots c => exact (h.setSampleRing n _).setCmd c
  | eventClosed n c => exact ((h.setEventRing n _).setDelivery n _).setCmd c
  | eventOpened n base slots notify floor l c => exact (h.setEventRing n _).setCmd c
  | softReset => exact h.softReset
  | hardReset => exact h.hardReset
  | _ => exact h.congr rfl rfl rfl

/-- Settles O49: every move keeps the alarm lines and the record of the pins. -/
theorem stepsKeepTheAlarmLaw : Obligations.StepsKeepTheAlarmLaw :=
  keptByStep_of_move (law := AlarmPinsLaw) (fun _ _ h => h.congr rfl rfl rfl) fun _ _ move h => move.alarmPinsLaw h

end Sys2Proof.Machine
end

section
/-!
PROOFS. The floors and the writes in flight (R141, R145, R148), the fourteen rings (R2, R3, R5) and their users (R27, R76, R86).
-/

namespace Sys2Proof.Machine

theorem eventRequester_ne {n m : Fin 4} (h : m ≠ n) : eventRequester m ≠ eventRequester n := by
  intro e
  exact h (Fin.ext (by have := congrArg Fin.val e; simpa [eventRequester] using this))

/-! ## The delivery states (O53) -/

/-- The delivery state and the record in flight of ring `n` are as they were. -/
theorem DeliveryLaw.ofRecord {n : Fin 4} {s t : State} (h : DeliveryLaw n s) (delivery : t.delivery[n] = s.delivery[n])
    (record : recordInFlight n t = recordInFlight n s) (closed : t.rings.event[n].state = .closed → t.access (eventRequester n) = none) :
    DeliveryLaw n t := by
  constructor
  · rw [delivery]; exact h.increasing
  · rw [delivery]; exact h.aboveBase
  · rw [delivery, record]; exact h.holdAbove
  · rw [delivery, record]; exact h.carried
  · rw [delivery]; exact h.owed
  · rw [delivery]; exact h.lost
  · exact closed

/-- The delivery state and the access of ring `n` are as they were, and it is CLOSED only where no write was in flight. -/
theorem DeliveryLaw.congr {n : Fin 4} {s t : State} (h : DeliveryLaw n s) (delivery : t.delivery[n] = s.delivery[n])
    (access : t.access (eventRequester n) = s.access (eventRequester n))
    (closed : t.rings.event[n].state = .closed → s.rings.event[n].state = .closed ∨ s.access (eventRequester n) = none) :
    DeliveryLaw n t :=
  h.ofRecord delivery (by unfold recordInFlight; rw [access]) (by rw [access]; exact fun here => (closed here).elim h.closed id)

/-- Its access has returned. -/
theorem DeliveryLaw.returned {n : Fin 4} {s t : State} (h : DeliveryLaw n s) (delivery : t.delivery[n] = s.delivery[n])
    (quiet : t.access (eventRequester n) = none) : DeliveryLaw n t :=
  .ofQuiet quiet (by rw [delivery]; exact h.increasing) (by rw [delivery]; exact h.aboveBase) (by rw [delivery]; exact h.owed)
    (by rw [delivery]; exact h.lost)

/-- A ring that is not CLOSED has the write of `r` in flight. -/
theorem DeliveryLaw.writing {n : Fin 4} {s t : State} (h : DeliveryLaw n s) (delivery : t.delivery[n] = s.delivery[n]) {r : EventRecord}
    (record : recordInFlight n t = some r) (hold : r.holds = true → s.delivery[n].currentFloor < r.level)
    (carried : ∀ lap k time, r = .overrun lap k time → 1 ≤ k ∧ k ≤ s.delivery[n].lost) (opened : t.rings.event[n].state ≠ .closed) :
    DeliveryLaw n t := by
  constructor
  · rw [delivery]; exact h.increasing
  · rw [delivery]; exact h.aboveBase
  · rw [delivery, record]; rintro _ ⟨⟩; exact hold
  · rw [delivery, record]; intro lap k time same; exact carried lap k time (Option.some.inj same)
  · rw [delivery]; exact h.owed
  · rw [delivery]; exact h.lost
  · exact fun closed => absurd closed opened

/-- Nothing of the delivery states is touched. -/
theorem FloorsLaw.congr {s t : State} (h : FloorsLaw s) (delivery : t.delivery = s.delivery)
    (access : ∀ n, t.access (eventRequester n) = s.access (eventRequester n)) (event : t.rings.event = s.rings.event) : FloorsLaw t :=
  fun n => (h n).congr (by rw [delivery]) (access n) (by rw [event]; exact .inl)

/-- What changes is ring `n`'s alone. -/
theorem FloorsLaw.at {s t : State} (h : FloorsLaw s) (n : Fin 4) (law : DeliveryLaw n t)
    (delivery : ∀ m : Fin 4, n ≠ m → t.delivery[m] = s.delivery[m])
    (access : ∀ m, n ≠ m → t.access (eventRequester m) = s.access (eventRequester m))
    (event : ∀ m : Fin 4, n ≠ m → t.rings.event[m] = s.rings.event[m]) : FloorsLaw t := by
  intro m
  by_cases same : n = m
  · exact same ▸ law
  · exact (h m).congr (delivery m same) (access m same) (by rw [event m same]; exact .inl)

theorem setDelivery_ne {s : State} {n m : Fin 4} (d : Delivery) (ne : n ≠ m) : (s.setDelivery n d).delivery[m] = s.delivery[m] := by
  rw [State.setDelivery_delivery, getElem_set_fin, if_neg ne]

theorem setEventRing_ne {s : State} {n m : Fin 4} (r : EventRing) (ne : n ≠ m) :
    (s.setEventRing n r).rings.event[m] = s.rings.event[m] := by
  rw [State.setEventRing_rings, getElem_set_fin, if_neg ne]

theorem issueRecord_access_ne {s : State} {n m : Fin 4} (r : EventRecord) (ne : n ≠ m) :
    (issueRecord n r s).access (eventRequester m) = s.access (eventRequester m) :=
  State.access_setAccess_ne _ _ _ _ (eventRequester_ne ne)

theorem issueRecord_record (s : State) (n : Fin 4) (r : EventRecord) : recordInFlight n (issueRecord n r s) = some r := by
  unfold recordInFlight issueRecord handOver
  rw [State.access_setAccess_self]

/-- A writer that can issue a record has a ring that is not CLOSED. -/
theorem opened_of_writerReady {n : Fin 4} {s : State} (ready : writerReady n s = true) : s.rings.event[n].state ≠ .closed := by
  obtain ⟨opened, -⟩ := writerReady_iff.1 ready
  rw [opened]; decide

theorem Change.floorsLaw {s t : State} (change : Change s t) (h : FloorsLaw s) : FloorsLaw t := by
  cases change with
  | asserts => exact h.congr (beginContribution_delivery _ _) (fun _ => beginContribution_access _ _ _) (by rw [beginContribution_rings]; rfl)
  | clears => exact h.congr (endContribution_delivery _ _) (fun _ => endContribution_access _ _ _) (by rw [endContribution_rings]; rfl)
  | overrun n ready owed =>
    have opened := opened_of_writerReady ready
    refine h.at n ((h n).writing rfl (issueRecord_record _ _ _) (by rintro ⟨⟩) ?_ opened) (fun _ _ => rfl)
      (fun _ => issueRecord_access_ne _) (fun _ _ => rfl)
    rintro lap k time ⟨⟩
    exact ⟨(h n).owed.1 owed, le_rfl⟩
  | entry n e ready above =>
    have opened := opened_of_writerReady ready
    exact h.at n ((h n).writing rfl (issueRecord_record _ _ _) (fun _ => above) (by rintro _ _ _ ⟨⟩) opened)
      (fun _ _ => rfl) (fun _ => issueRecord_access_ne _) (fun _ _ => rfl)
  | delivery n d law => exact h.at n (law (h n)) (fun _ => setDelivery_ne d) (fun _ _ => rfl) (fun _ _ => rfl)
  | eventRing n r closed =>
    refine h.at n ((h n).congr rfl rfl fun here => ?_) (fun _ _ => rfl) (fun _ _ => rfl) (fun _ => setEventRing_ne r)
    rw [State.setEventRing_rings, getElem_set_fin, if_pos rfl] at here
    exact (closed here).imp_right And.right
  | _ => exact h.congr rfl (fun _ => rfl) rfl

/-- With the delivery states at their reset values and nothing in flight, the law holds. -/
theorem DeliveryLaw.atReset {n : Fin 4} {t : State} (delivery : t.delivery[n] = Delivery.atReset)
    (quiet : t.access (eventRequester n) = none) : DeliveryLaw n t := by
  refine .ofQuiet quiet ?_ ?_ ?_ ?_ <;> rw [delivery] <;> simp [Delivery.atReset]

theorem reset_delivery (n : Fin 4) : State.reset.delivery[n] = Delivery.atReset := by simp [State.reset]

theorem Move.floorsLaw {s t : State} (move : Move s t) (h : FloorsLaw s) : FloorsLaw t := by
  cases move with
  | change change => exact change.floorsLaw h
  | hand r p address _ notEvent =>
    exact h.congr rfl (fun n => State.access_setAccess_ne _ _ _ _ (notEvent n)) rfl
  | loaded f => exact h.congr rfl (fun n => State.access_setAccess_ne _ _ _ _ (commandRequester_ne_event n)) rfl
  | returned r =>
    intro n
    by_cases own : r = eventRequester n
    · exact (h n).returned rfl (by rw [own, State.access_setAccess_self])
    · exact (h n).congr rfl (State.access_setAccess_ne _ _ _ _ own) .inl
  | settled n d law =>
    exact h.at n (law (h n)) (fun _ => setDelivery_ne d) (fun m ne => State.access_setAccess_ne _ _ _ _ (eventRequester_ne ne))
      (fun _ _ => rfl)
  | phase r a p l flight =>
    intro n
    by_cases own : r = eventRequester n
    · subst own
      have here : ((s.setAccess (eventRequester n) (some { a with phase := p })).mapMau fun m => { m with lastGranted := l }).access
          (eventRequester n) = some { a with phase := p } := State.access_setAccess_self _ _ _
      refine (h n).ofRecord rfl ?_ fun closed => ?_
      · unfold recordInFlight; rw [here, flight]; obtain ⟨payload, _, _, _⟩ := a; cases payload <;> rfl
      · exact absurd ((h n).closed closed) (by rw [flight]; rintro ⟨⟩)
    · exact (h n).congr rfl (State.access_setAccess_ne _ _ _ _ own) .inl
  | rebased => exact h.congr (rebaseDeadlines_delivery s) (fun n => rebaseDeadlines_access s _) (by rw [rebaseDeadlines_rings])
  | eventClosed n c waits phase quiet =>
    refine h.at n (.atReset (by simp) quiet) (fun _ => setDelivery_ne _) (fun _ _ => rfl) (fun _ => setEventRing_ne _)
  | eventOpened n base slots notify floor l c =>
    refine h.at n ((h n).congr rfl rfl fun closed => ?_) (fun _ _ => rfl) (fun _ _ => rfl) (fun _ => setEventRing_ne _)
    simp [EventRing.openedWith] at closed
  | softReset => exact fun n => .atReset (reset_delivery n) (access_afterReset (softReset_mau s) _)
  | hardReset => exact fun n => .atReset (reset_delivery n) (access_afterReset (hardReset_mau s) _)
  | _ => exact h.congr rfl (fun _ => rfl) rfl

/-- Settles O53: every move keeps the delivery states. -/
theorem stepsKeepTheFloorLaw : Obligations.StepsKeepTheFloorLaw :=
  keptByStep_of_move (fun _ _ h => h.congr rfl (fun _ => rfl) rfl) fun _ _ move h => move.floorsLaw h

/-! ## The rings (O56) -/

/-- The part of the law of the rings that is about the descriptors. -/
structure RingTableLaw (r : RingManager) : Prop where
  command : DescriptorLaw 8 1024 r.command
  reply : DescriptorLaw 8 1024 r.reply.toDescriptor
  sample : ∀ n : Fin 8, SampleRingLaw r.sample[n]
  event : ∀ n : Fin 4, EventRingLaw r.event[n]
  commandState : r.command.state ≠ .faulted
  replyState : r.reply.state ≠ .faulted

/-- The part that is about openings that wait. -/
structure OpeningsLaw (s : State) : Prop where
  sample : ∀ n base slots, openSampleWaits n base slots s → validGeometry 16 4096 base slots.toNat = true
  event : ∀ n base slots notify floor, openEventWaits n base slots notify floor s → validGeometry 8 1024 base slots.toNat = true

theorem ringsLaw_iff {s : State} : RingsLaw s ↔ RingTableLaw s.rings ∧ OpeningsLaw s :=
  ⟨fun h => ⟨⟨h.command, h.reply, fun n => ⟨h.sample n, h.sampleCause n⟩, fun n => ⟨h.event n, h.eventCause n⟩, h.commandState,
    h.replyState⟩, ⟨h.sampleWaiting, h.eventWaiting⟩⟩,
  fun ⟨r, o⟩ => ⟨r.command, r.reply, fun n => (r.sample n).1, fun n => (r.event n).1, r.commandState, r.replyState,
    fun n => (r.sample n).2, fun n => (r.event n).2, o.sample, o.event⟩⟩

theorem RingTableLaw.setSample {r : RingManager} (h : RingTableLaw r) {n : Fin 8} {x : SampleRing} (law : SampleRingLaw x) :
    RingTableLaw { r with sample := r.sample.set n x } :=
  { h with
    sample := fun m => by
      dsimp only
      rw [getElem_set_fin]
      split
      · exact law
      · exact h.sample m }

theorem RingTableLaw.setEvent {r : RingManager} (h : RingTableLaw r) {n : Fin 4} {x : EventRing} (law : EventRingLaw x) :
    RingTableLaw { r with event := r.event.set n x } :=
  { h with
    event := fun m => by
      dsimp only
      rw [getElem_set_fin]
      split
      · exact law
      · exact h.event m }

theorem RingTableLaw.atReset (address : Addr) : RingTableLaw { RingManager.atReset with shadowAddr := address } where
  command closed := absurd rfl closed
  reply closed := absurd rfl closed
  sample n := by
    have entry : RingManager.atReset.sample[n] = SampleRing.atReset := by simp [RingManager.atReset]
    show SampleRingLaw RingManager.atReset.sample[n]
    rw [entry]
    exact ⟨fun closed => absurd rfl closed, by decide⟩
  event n := by
    have entry : RingManager.atReset.event[n] = EventRing.atReset := by simp [RingManager.atReset]
    show EventRingLaw RingManager.atReset.event[n]
    rw [entry]
    exact ⟨fun closed => absurd rfl closed, by decide⟩
  commandState := show RingManager.atReset.command.state ≠ .faulted by decide
  replyState := show RingManager.atReset.reply.state ≠ .faulted by decide

/-- No command waits outside EXECUTING. -/
theorem not_waitsWith {s : State} (phase : s.cmd.phase ≠ .executing) (index : Nat) (q : Request) (rec : CommandRecord) :
    ¬ waitsWith index q rec s := fun waits => phase waits.1

theorem OpeningsLaw.idle {s : State} (phase : s.cmd.phase ≠ .executing) : OpeningsLaw s :=
  ⟨fun _ _ _ ⟨_, waits⟩ => absurd waits (not_waitsWith phase _ _ _), fun _ _ _ _ _ ⟨_, waits⟩ => absurd waits (not_waitsWith phase _ _ _)⟩

theorem OpeningsLaw.congr {s t : State} (h : OpeningsLaw s) (cmd : t.cmd = s.cmd) : OpeningsLaw t := by
  refine ⟨fun n base slots ⟨rec, waits⟩ => h.sample n base slots ⟨rec, ?_⟩,
    fun n base slots notify floor ⟨rec, waits⟩ => h.event n base slots notify floor ⟨rec, ?_⟩⟩ <;>
  · unfold waitsWith at waits ⊢
    rw [← cmd]
    exact waits

theorem RingsLaw.congr {s t : State} (h : RingsLaw s) (rings : t.rings = s.rings) (cmd : t.cmd = s.cmd) : RingsLaw t := by
  rw [ringsLaw_iff] at h ⊢
  exact ⟨rings ▸ h.1, h.2.congr cmd⟩

theorem Change.ringsLaw {s t : State} (change : Change s t) (h : RingsLaw s) : RingsLaw t := by
  cases change with
  | asserts => exact h.congr (beginContribution_rings _ _) (beginContribution_cmd _ _)
  | clears => exact h.congr (endContribution_rings _ _) (endContribution_cmd _ _)
  | sampleRing n r _ law =>
    obtain ⟨table, openings⟩ := ringsLaw_iff.1 h
    exact ringsLaw_iff.2 ⟨table.setSample (law (table.sample n)), openings.congr rfl⟩
  | eventRing n r _ law =>
    obtain ⟨table, openings⟩ := ringsLaw_iff.1 h
    exact ringsLaw_iff.2 ⟨table.setEvent (law (table.event n)), openings.congr rfl⟩
  | owed =>
    obtain ⟨table, openings⟩ := ringsLaw_iff.1 h
    exact ringsLaw_iff.2 ⟨{ table with }, openings.congr rfl⟩
  | _ => exact h.congr rfl rfl

theorem Move.ringsLaw {s t : State} (move : Move s t) (h : RingsLaw s) : RingsLaw t := by
  obtain ⟨table, openings⟩ := ringsLaw_iff.1 h
  cases move with
  | change change => exact change.ringsLaw h
  | commandRing d address owed law state =>
    exact ringsLaw_iff.2 ⟨{ table with command := law table.command, commandState := state table.commandState }, openings.congr rfl⟩
  | replyRing d law state =>
    exact ringsLaw_iff.2 ⟨{ table with reply := law table.reply, replyState := state table.replyState }, openings.congr rfl⟩
  | cmd c phase => exact ringsLaw_iff.2 ⟨table, .idle phase⟩
  | waits rec openSample openEvent =>
    refine ringsLaw_iff.2 ⟨table, ⟨?_, ?_⟩⟩
    · rintro n base slots ⟨_, -, ⟨⟩, index, request⟩
      exact openSample n base slots index request
    · rintro n base slots notify floor ⟨_, -, ⟨⟩, index, request⟩
      exact openEvent n base slots notify floor index request
  | sampleClosed n c waits phase => exact ringsLaw_iff.2 ⟨table.setSample (sampleClosed_law _), .idle phase⟩
  | sampleOpened n base slots c waits phase =>
    exact ringsLaw_iff.2 ⟨table.setSample (sampleOpened_law (openings.sample n base slots waits)), .idle phase⟩
  | eventClosed n c waits phase => exact ringsLaw_iff.2 ⟨table.setEvent (eventClosed_law _), .idle phase⟩
  | eventOpened n base slots notify floor l c waits phase =>
    exact ringsLaw_iff.2 ⟨table.setEvent (eventOpened_law (openings.event n base slots notify floor waits)), .idle phase⟩
  | fault => exact h.congr (faultReport_rings _ _ _) (faultReport_cmd _ _ _)
  | rebased => exact h.congr (rebaseDeadlines_rings s) (rebaseDeadlines_cmd s)
  | softReset => exact ringsLaw_iff.2 ⟨.atReset s.rings.shadowAddr, .idle (by decide : CommandEngine.atReset.phase ≠ .executing)⟩
  | hardReset => exact ringsLaw_iff.2 ⟨.atReset 0, .idle (by decide : CommandEngine.atReset.phase ≠ .executing)⟩
  | _ => exact h.congr rfl rfl

/-- Settles O56: every move keeps the rings. -/
theorem stepsKeepTheRingLaw : Obligations.StepsKeepTheRingLaw :=
  keptByStep_of_move (fun _ _ h => h.congr rfl rfl) fun _ _ move h => move.ringsLaw h

end Sys2Proof.Machine
end

section
/-!
PROOFS. The users of the rings (R27, R76, R86): a bound stream or a watch keeps its rings from being closed.
-/

namespace Sys2Proof.Machine

/-- Stream `x` uses sample ring `n`. -/
theorem sampleRingUsed_iff {n : Fin 8} {s : State} :
    sampleRingUsed n s = true ↔ ∃ i : Fin 64, s.streams[i].isBound = true ∧ s.streams[i].sampleRing = n := by
  simp [sampleRingUsed]

theorem eventRingUsed_iff {n : Fin 4} {s : State} :
    eventRingUsed n s = true ↔
      (∃ id : Fin 128, watchTargets n s.watches[id] = true) ∨ ∃ i : Fin 64, s.streams[i].isBound = true ∧ s.streams[i].eventRing = n := by
  simp [eventRingUsed, eventRingTargeted, eventRingNamed]

/-- The rings in use after are in use before. -/
structure FewerUsers (s t : State) : Prop where
  sample : ∀ n, sampleRingUsed n t = true → sampleRingUsed n s = true
  event : ∀ n, eventRingUsed n t = true → eventRingUsed n s = true

/-- The rings in use are not CLOSED. -/
structure UsedOpen (s : State) : Prop where
  sample : ∀ n : Fin 8, sampleRingUsed n s = true → s.rings.sample[n].state ≠ .closed
  event : ∀ n : Fin 4, eventRingUsed n s = true → s.rings.event[n].state ≠ .closed

/-- A close that waits has no users. -/
structure ClosingsLaw (s : State) : Prop where
  sample : ∀ n : Fin 8, closeSampleWaits n s → sampleRingUsed n s = false
  event : ∀ n : Fin 4, closeEventWaits n s → eventRingUsed n s = false

theorem ringUsersLaw_iff {s : State} : RingUsersLaw s ↔ UsedOpen s ∧ ClosingsLaw s :=
  ⟨fun h => ⟨⟨h.sample, h.event⟩, ⟨h.sampleClosing, h.eventClosing⟩⟩, fun ⟨o, c⟩ => ⟨o.sample, o.event, c.sample, c.event⟩⟩

section
variable {s t : State}

/-- The stream table and the watch table are as they were. -/
theorem FewerUsers.ofSame (streams : t.streams = s.streams) (watches : t.watches = s.watches) : FewerUsers s t :=
  ⟨fun n => by unfold sampleRingUsed; rw [streams]; exact id,
    fun n => by unfold eventRingUsed eventRingTargeted eventRingNamed; rw [streams, watches]; exact id⟩

/-- Each bound stream and each watch uses what it used. -/
theorem FewerUsers.of
    (streams : ∀ i : Fin 64, t.streams[i].isBound = true →
      s.streams[i].isBound = true ∧ t.streams[i].sampleRing = s.streams[i].sampleRing ∧ t.streams[i].eventRing = s.streams[i].eventRing)
    (watches : ∀ (id : Fin 128) (n : Fin 4), watchTargets n t.watches[id] = true → watchTargets n s.watches[id] = true) : FewerUsers s t := by
  constructor
  · intro n used
    obtain ⟨i, bound, ring⟩ := sampleRingUsed_iff.1 used
    obtain ⟨before, sample, -⟩ := streams i bound
    exact sampleRingUsed_iff.2 ⟨i, before, sample ▸ ring⟩
  · intro n used
    obtain ⟨id, target⟩ | ⟨i, bound, ring⟩ := eventRingUsed_iff.1 used
    · exact eventRingUsed_iff.2 (.inl ⟨id, watches id n target⟩)
    · obtain ⟨before, -, event⟩ := streams i bound
      exact eventRingUsed_iff.2 (.inr ⟨i, before, event ▸ ring⟩)

/-- One stream is replaced by one that is UNBOUND or bound as before. -/
theorem FewerUsers.setStream {i : Fin 64} {x : Stream} (streams : t.streams = s.streams.set i x)
    (watches : ∀ (id : Fin 128) (n : Fin 4), watchTargets n t.watches[id] = true → watchTargets n s.watches[id] = true)
    (bound : x.isBound = true →
      s.streams[i].isBound = true ∧ x.sampleRing = s.streams[i].sampleRing ∧ x.eventRing = s.streams[i].eventRing) : FewerUsers s t := by
  refine .of (fun j => ?_) watches
  rw [streams, getElem_set_fin]
  split
  · rename_i same; exact same ▸ bound
  · exact fun b => ⟨b, rfl, rfl⟩

/-- One watch is replaced by one of the same target, or leaves the table. -/
theorem watchTargets_set {id : Fin 128} {v : Option Watch} (target : ∀ n, watchTargets n v = true → watchTargets n s.watches[id] = true)
    (j : Fin 128) (n : Fin 4) (h : watchTargets n (s.watches.set id v)[j] = true) : watchTargets n s.watches[j] = true := by
  rw [getElem_set_fin] at h
  split at h
  · rename_i same; exact same ▸ target n h
  · exact h

theorem watchTargets_of_statics {id : Fin 128} {w w' : Watch} (used : s.watches[id] = some w) (statics : SameStatics w w') (n : Fin 4)
    (h : watchTargets n (some w') = true) : watchTargets n s.watches[id] = true := by
  rw [used]
  simpa [watchTargets, statics.target] using h

/-- A ring that is CLOSED after was CLOSED or had no user. -/
theorem UsedOpen.of (h : UsedOpen s) (users : FewerUsers s t)
    (sample : ∀ n : Fin 8, t.rings.sample[n].state = .closed → s.rings.sample[n].state = .closed ∨ sampleRingUsed n s = false)
    (event : ∀ n : Fin 4, t.rings.event[n].state = .closed → s.rings.event[n].state = .closed ∨ eventRingUsed n s = false) : UsedOpen t := by
  refine ⟨fun n used closed => ?_, fun n used closed => ?_⟩
  · have before := users.sample n used
    exact (sample n closed).elim (h.sample n before) fun none => absurd (before.symm.trans none) (by decide)
  · have before := users.event n used
    exact (event n closed).elim (h.event n before) fun none => absurd (before.symm.trans none) (by decide)

theorem UsedOpen.congr (h : UsedOpen s) (users : FewerUsers s t) (rings : t.rings = s.rings) : UsedOpen t :=
  h.of users (fun _ => by rw [rings]; exact .inl) (fun _ => by rw [rings]; exact .inl)

theorem ClosingsLaw.idle (phase : s.cmd.phase ≠ .executing) : ClosingsLaw s :=
  ⟨fun _ ⟨_, waits⟩ => absurd waits (not_waitsWith phase _ _ _), fun _ ⟨_, waits⟩ => absurd waits (not_waitsWith phase _ _ _)⟩

theorem ClosingsLaw.of (h : ClosingsLaw s) (users : FewerUsers s t) (cmd : t.cmd = s.cmd) : ClosingsLaw t := by
  have same {index : Nat} {q : Request} {rec : CommandRecord} (waits : waitsWith index q rec t) : waitsWith index q rec s := by
    unfold waitsWith at waits ⊢; rw [← cmd]; exact waits
  refine ⟨fun n ⟨rec, waits⟩ => ?_, fun n ⟨rec, waits⟩ => ?_⟩
  · exact Bool.eq_false_of_not_eq_true fun used =>
      absurd ((users.sample n used).symm.trans (h.sample n ⟨rec, same waits⟩)) (by decide)
  · exact Bool.eq_false_of_not_eq_true fun used =>
      absurd ((users.event n used).symm.trans (h.event n ⟨rec, same waits⟩)) (by decide)

/-- No user is added, no ring is closed, and the command engine is as it was. -/
theorem RingUsersLaw.congr (h : RingUsersLaw s) (users : FewerUsers s t) (rings : t.rings = s.rings) (cmd : t.cmd = s.cmd) :
    RingUsersLaw t := by
  rw [ringUsersLaw_iff] at h ⊢
  exact ⟨h.1.congr users rings, h.2.of users cmd⟩

theorem setSampleRing_closed {n m : Fin 8} {r : SampleRing}
    (closed : r.state = .closed → s.rings.sample[n].state = .closed ∨ sampleRingUsed n s = false)
    (here : (s.setSampleRing n r).rings.sample[m].state = .closed) : s.rings.sample[m].state = .closed ∨ sampleRingUsed m s = false := by
  rw [State.setSampleRing_rings, getElem_set_fin] at here
  split at here
  · rename_i same; exact same ▸ closed here
  · exact .inl here

theorem setEventRing_closed {n m : Fin 4} {r : EventRing}
    (closed : r.state = .closed → s.rings.event[n].state = .closed ∨ eventRingUsed n s = false)
    (here : (s.setEventRing n r).rings.event[m].state = .closed) : s.rings.event[m].state = .closed ∨ eventRingUsed m s = false := by
  rw [State.setEventRing_rings, getElem_set_fin] at here
  split at here
  · rename_i same; exact same ▸ closed here
  · exact .inl here

/-- A stream is bound to rings that are not CLOSED (R70). -/
theorem UsedOpen.bind (h : UsedOpen s) {i : Fin 64} {x : Stream} {n : Fin 8} {e : Fin 4} (sampleRing : x.sampleRing = n)
    (sampleOpen : s.rings.sample[n].state ≠ .closed) (eventRing : x.eventRing = e) (eventOpen : s.rings.event[e].state ≠ .closed) :
    UsedOpen (s.setStream i x) := by
  have others (j : Fin 64) : (s.setStream i x).streams[j] = if i = j then x else s.streams[j] := by
    rw [State.setStream_streams, getElem_set_fin]
  refine ⟨fun m used => ?_, fun m used => ?_⟩
  · obtain ⟨j, bound, ring⟩ := sampleRingUsed_iff.1 used
    rw [others] at bound ring
    split at ring
    · rw [← ring, sampleRing]; exact sampleOpen
    · rw [if_neg ‹_›] at bound; exact h.sample m (sampleRingUsed_iff.2 ⟨j, bound, ring⟩)
  · obtain target | ⟨j, bound, ring⟩ := eventRingUsed_iff.1 used
    · exact h.event m (eventRingUsed_iff.2 (.inl target))
    · rw [others] at bound ring
      split at ring
      · rw [← ring, eventRing]; exact eventOpen
      · rw [if_neg ‹_›] at bound; exact h.event m (eventRingUsed_iff.2 (.inr ⟨j, bound, ring⟩))

/-- A watch is created on a ring that is not CLOSED (R87). -/
theorem UsedOpen.create (h : UsedOpen s) {id : Fin 128} {w : Watch} (target : s.rings.event[w.target].state ≠ .closed) :
    UsedOpen (s.setWatch id (some w)) := by
  refine ⟨h.sample, fun m used => ?_⟩
  obtain ⟨j, targets⟩ | named := eventRingUsed_iff.1 used
  · rw [State.setWatch_watches, getElem_set_fin] at targets
    split at targets
    · obtain rfl : w.target = m := by simpa [watchTargets] using targets
      exact target
    · exact h.event m (eventRingUsed_iff.2 (.inl ⟨j, targets⟩))
  · exact h.event m (eventRingUsed_iff.2 (.inr named))

/-- A stream that only its watch list tells from what it was adds no user. -/
theorem FewerUsers.watchList (i : Fin 64) (l : List (Fin 128)) : FewerUsers s (s.setStream i { s.streams[i] with watchList := l }) :=
  .setStream rfl (fun _ _ => id) fun bound => ⟨bound, rfl, rfl⟩

theorem FewerUsers.watch {id : Fin 128} {w w' : Watch} (used : s.watches[id] = some w) (statics : SameStatics w w') :
    FewerUsers s (s.setWatch id (some w')) :=
  .of (fun _ bound => ⟨bound, rfl, rfl⟩) (watchTargets_set (watchTargets_of_statics used statics))

theorem FewerUsers.trans {u : State} (h : FewerUsers s t) (k : FewerUsers t u) : FewerUsers s u :=
  ⟨fun n => h.sample n ∘ k.sample n, fun n => h.event n ∘ k.event n⟩

theorem Change.ringUsersLaw (change : Change s t) (h : RingUsersLaw s) : RingUsersLaw t := by
  obtain ⟨opened, closings⟩ := ringUsersLaw_iff.1 h
  cases change with
  | stream i x binding =>
    refine h.congr (.setStream rfl (fun _ _ => id) fun bound => ⟨binding.bound ▸ bound, binding.sampleRing, binding.eventRing⟩) rfl rfl
  | bind i x _ _ _ sampleRing sampleOpen eventRing eventOpen _ phase =>
    exact ringUsersLaw_iff.2 ⟨opened.bind sampleRing sampleOpen eventRing eventOpen, .idle phase⟩
  | unbind i x _ unbound =>
    exact h.congr (.setStream rfl (fun _ _ => id) fun bound => absurd (unbound.symm.trans bound) (by decide)) rfl rfl
  | watch id w w' used moves => exact h.congr (.watch used moves.statics) rfl rfl
  | asserts id w w' used moves =>
    exact h.congr (.trans (.watch used moves.statics) (.ofSame (beginContribution_streams _ _) (beginContribution_watches _ _)))
      (beginContribution_rings _ _) (beginContribution_cmd _ _)
  | clears id w w' used moves =>
    exact h.congr (.trans (.watch used moves.statics) (.ofSame (endContribution_streams _ _) (endContribution_watches _ _)))
      (endContribution_rings _ _) (endContribution_cmd _ _)
  | create id w _ _ _ _ _ target phase =>
    exact ringUsersLaw_iff.2 ⟨(opened.create target).congr (.watchList _ _) rfl, .idle phase⟩
  | delete id w used =>
    refine h.congr (.trans ?_ (.watchList (s := s.setWatch id none) _ _)) rfl rfl
    exact .of (fun _ bound => ⟨bound, rfl, rfl⟩) (watchTargets_set fun _ none => absurd none (by simp [watchTargets]))
  | sampleRing n r closed =>
    have users : FewerUsers s (s.setSampleRing n r) := .ofSame rfl rfl
    exact ringUsersLaw_iff.2 ⟨opened.of users (fun _ => setSampleRing_closed closed) (fun _ => .inl), closings.of users rfl⟩
  | eventRing n r closed =>
    have users : FewerUsers s (s.setEventRing n r) := .ofSame rfl rfl
    refine ringUsersLaw_iff.2 ⟨opened.of users (fun _ => .inl) (fun _ => setEventRing_closed fun here => ?_), closings.of users rfl⟩
    exact (closed here).imp_right And.left
  | owed => exact ringUsersLaw_iff.2 ⟨opened.of (.ofSame rfl rfl) (fun _ => .inl) (fun _ => .inl), closings.of (.ofSame rfl rfl) rfl⟩
  | _ => exact h.congr (.ofSame rfl rfl) rfl rfl

/-- Streams that are UNBOUND and watches that are free use no ring. -/
theorem RingUsersLaw.ofFresh (fresh : FreshTables t) (cmd : t.cmd = CommandEngine.atReset) : RingUsersLaw t := by
  have noSample (n : Fin 8) : sampleRingUsed n t ≠ true := by
    rw [Ne, sampleRingUsed_iff, fresh.streams]; simp [State.reset, Stream.atReset, Stream.isBound]
  have noEvent (n : Fin 4) : eventRingUsed n t ≠ true := by
    rw [Ne, eventRingUsed_iff, fresh.streams, fresh.watches]; simp [State.reset, Stream.atReset, Stream.isBound, watchTargets]
  exact ringUsersLaw_iff.2 ⟨⟨fun n used => absurd used (noSample n), fun n used => absurd used (noEvent n)⟩,
    .idle (by rw [cmd]; decide)⟩

theorem FewerUsers.rebased : FewerUsers s (rebaseDeadlines s) := by
  refine .of (fun i => ?_) fun _ n => by rw [rebaseDeadlines_watches]; exact id
  simp only [rebaseDeadlines, Fin.getElem_fin, Vector.getElem_ofFn]
  unfold Stream.rebase Stream.setDeadline
  split
  · split <;> exact fun bound => ⟨bound, rfl, rfl⟩
  · exact fun bound => ⟨bound, rfl, rfl⟩

theorem Move.ringUsersLaw (move : Move s t) (h : RingUsersLaw s) : RingUsersLaw t := by
  obtain ⟨opened, closings⟩ := ringUsersLaw_iff.1 h
  cases move with
  | change change => exact change.ringUsersLaw h
  | commandRing | replyRing =>
    exact ringUsersLaw_iff.2 ⟨opened.of (.ofSame rfl rfl) (fun _ => .inl) (fun _ => .inl), closings.of (.ofSame rfl rfl) rfl⟩
  | cmd c phase => exact ringUsersLaw_iff.2 ⟨opened.congr (.ofSame rfl rfl) rfl, .idle phase⟩
  | waits rec _ _ closeSample closeEvent =>
    refine ringUsersLaw_iff.2 ⟨opened.congr (.ofSame rfl rfl) rfl, ⟨?_, ?_⟩⟩
    · rintro n ⟨_, -, ⟨⟩, index, request⟩
      exact closeSample n index request
    · rintro n ⟨_, -, ⟨⟩, index, request⟩
      exact closeEvent n index request
  | sampleClosed n c waits phase =>
    exact ringUsersLaw_iff.2 ⟨opened.of (.ofSame rfl rfl) (fun _ => setSampleRing_closed fun _ => .inr (closings.sample n waits))
      (fun _ => .inl), .idle phase⟩
  | sampleOpened n base slots c waits phase =>
    exact ringUsersLaw_iff.2 ⟨opened.of (.ofSame rfl rfl) (fun _ => setSampleRing_closed (by rintro ⟨⟩)) (fun _ => .inl), .idle phase⟩
  | eventClosed n c waits phase =>
    exact ringUsersLaw_iff.2 ⟨opened.of (.ofSame rfl rfl) (fun _ => .inl)
      (fun _ => setEventRing_closed fun _ => .inr (closings.event n waits)), .idle phase⟩
  | eventOpened n base slots notify floor l c waits phase =>
    exact ringUsersLaw_iff.2 ⟨opened.of (.ofSame rfl rfl) (fun _ => .inl) (fun _ => setEventRing_closed (by rintro ⟨⟩)), .idle phase⟩
  | fault => exact h.congr (.ofSame (faultReport_streams _ _ _) (faultReport_watches _ _ _)) (faultReport_rings _ _ _) (faultReport_cmd _ _ _)
  | rebased => exact h.congr .rebased (rebaseDeadlines_rings s) (rebaseDeadlines_cmd s)
  | softReset => exact .ofFresh (freshTables_softReset s) rfl
  | hardReset => exact .ofFresh (freshTables_hardReset s) rfl
  | _ => exact h.congr (.ofSame rfl rfl) rfl rfl

end

/-- Settles O58: every move keeps the rings in use from being CLOSED. -/
theorem stepsKeepUsedRingsOpen : Obligations.StepsKeepUsedRingsOpen :=
  keptByStep_of_move (fun _ _ h => h.congr (.ofSame rfl rfl) rfl rfl) fun _ _ move h => move.ringUsersLaw h

end Sys2Proof.Machine
end

section
/-!
PROOFS. The command path (R33) and the quiet of IDLE, LOADING and STOPPED (R176, R187, R188). The checks that start accesses keep both laws;
a completion row breaks them only between the return of the access and the check at its end.
-/

namespace Sys2Proof.Machine

/-- The two laws of the command path. -/
def PathLaw (s : State) : Prop := CommandPathLaw s ∧ QuietLaw s

/-- The engine is in a state in which accesses may be in flight. -/
def Active (s : State) : Prop := s.control.engine = .run ∨ s.control.engine = .stopping ∨ s.control.engine = .fault

section
variable {s t : State}

theorem commandPathLaw_waiting (phase : s.cmd.phase = .waiting) : CommandPathLaw s ↔
    s.cmd.held = none ∧ s.cmd.reply = none ∧ s.access replyRequester = none ∧
      ∀ a, s.access commandRequester = some a → a.payload = .setupRead ∧ (s.control.engine = .loading ∨ s.control.engine = .fault) := by
  unfold CommandPathLaw; rw [phase]

theorem commandPathLaw_fetching (phase : s.cmd.phase = .fetching) : CommandPathLaw s ↔
    s.cmd.held = none ∧ s.cmd.reply = none ∧ s.access replyRequester = none ∧
      (∃ a, s.access commandRequester = some a ∧ a.payload = .commandFetch) ∧ s.control.engine ≠ .idle ∧ s.control.engine ≠ .loading := by
  unfold CommandPathLaw; rw [phase]

theorem commandPathLaw_executing (phase : s.cmd.phase = .executing) : CommandPathLaw s ↔
    s.cmd.held.isSome = true ∧ s.cmd.reply = none ∧ s.access replyRequester = none ∧ s.access commandRequester = none ∧
      s.control.engine ≠ .idle ∧ s.control.engine ≠ .loading := by
  unfold CommandPathLaw; rw [phase]

theorem commandPathLaw_replying (phase : s.cmd.phase = .replying) : CommandPathLaw s ↔
    s.cmd.held.isSome = true ∧ (∃ r a, s.cmd.reply = some r ∧ s.access replyRequester = some a ∧ a.payload = .replyWrite r) ∧
      s.access commandRequester = none ∧ s.control.engine ≠ .idle ∧ s.control.engine ≠ .loading := by
  unfold CommandPathLaw; rw [phase]

/-! ## What the laws do not read -/

/-- The law of the command path reads no more of the engine than this. -/
theorem CommandPathLaw.congr (h : CommandPathLaw s) (cmd : t.cmd = s.cmd)
    (command : t.access commandRequester = s.access commandRequester) (reply : t.access replyRequester = s.access replyRequester)
    (engine : t.control.engine = s.control.engine) : CommandPathLaw t := by
  unfold CommandPathLaw at h ⊢
  rw [cmd, command, reply, engine]
  exact h

theorem Active.congr (h : Active s) (engine : t.control.engine = s.control.engine) : Active t := by unfold Active; rw [engine]; exact h

theorem Active.not (h : Active s) : s.control.engine ≠ .idle ∧ s.control.engine ≠ .stopped ∧ s.control.engine ≠ .loading := by
  obtain e | e | e := h <;> rw [e] <;> decide

theorem QuietLaw.ofActive (h : Active s) : QuietLaw s :=
  ⟨fun e => absurd e h.not.1, fun e => absurd e h.not.2.1, fun e => absurd e h.not.2.2⟩

theorem PathLaw.ofActive (active : Active s) (law : CommandPathLaw s) : PathLaw s := ⟨law, .ofActive active⟩

/-- Requesters 1 and 2 are free, and the command engine is WAITING with nothing in hand. -/
theorem CommandPathLaw.ofIdle (cmd : s.cmd = CommandEngine.atReset) (command : s.access commandRequester = none)
    (reply : s.access replyRequester = none) : CommandPathLaw s := by
  rw [commandPathLaw_waiting (by rw [cmd]; rfl), cmd]
  exact ⟨rfl, rfl, reply, fun a flight => absurd (command.symm.trans flight) (by rintro ⟨⟩)⟩

/-- WAITING holds nothing. -/
theorem CommandPathLaw.idle (h : CommandPathLaw s) (waiting : s.cmd.phase = .waiting) : s.cmd = CommandEngine.atReset := by
  obtain ⟨held, reply, -⟩ := (commandPathLaw_waiting waiting).1 h
  cases engine : s.cmd with
  | mk phase inHand answer =>
    rw [engine] at waiting held reply
    obtain rfl : phase = .waiting := waiting
    obtain rfl : inHand = none := held
    obtain rfl : answer = none := reply
    rfl

/-- An access with the payload of one that is in flight. -/
theorem flight_of_payload {x y : Option Access} (h : y.map Access.payload = x.map Access.payload) {a : Access} (flight : y = some a) :
    ∃ b, x = some b ∧ b.payload = a.payload := by
  rw [flight] at h
  exact Option.map_eq_some_iff.1 h.symm

theorem none_of_payload {x y : Option Access} (h : y.map Access.payload = x.map Access.payload) : y = none ↔ x = none := by
  rw [← Option.map_eq_none_iff (f := Access.payload), h, Option.map_eq_none_iff]

/-- The laws read the engine, the payloads in flight, the owed shadow write and the command engine. -/
theorem PathLaw.ofPayloads (h : PathLaw s) (cmd : t.cmd = s.cmd)
    (access : ∀ r, (t.access r).map Access.payload = (s.access r).map Access.payload)
    (owed : t.rings.shadowOwed = s.rings.shadowOwed) (engine : t.control.engine = s.control.engine) : PathLaw t := by
  have free (r : Requester) : t.access r = none ↔ s.access r = none := none_of_payload (access r)
  have same : drained t = drained s := by
    rw [Bool.eq_iff_iff, drained_iff_quiet, drained_iff_quiet]
    unfold Quiet
    simp only [free, owed, cmd]
  obtain ⟨path, quiet⟩ := h
  refine ⟨?_, ?_, ?_, ?_⟩
  · cases phase : s.cmd.phase with
    | waiting =>
      rw [commandPathLaw_waiting phase] at path
      rw [commandPathLaw_waiting (cmd ▸ phase), cmd, free, engine]
      obtain ⟨held, reply, replyQuiet, setup⟩ := path
      refine ⟨held, reply, replyQuiet, fun a flight => ?_⟩
      obtain ⟨b, before, payload⟩ := flight_of_payload (access _) flight
      exact payload ▸ setup b before
    | fetching =>
      rw [commandPathLaw_fetching phase] at path
      rw [commandPathLaw_fetching (cmd ▸ phase), cmd, free, engine]
      obtain ⟨held, reply, replyQuiet, ⟨a, flight, fetch⟩, rest⟩ := path
      obtain ⟨b, after, payload⟩ := flight_of_payload (access _).symm flight
      exact ⟨held, reply, replyQuiet, ⟨b, after, payload.trans fetch⟩, rest⟩
    | executing =>
      rw [commandPathLaw_executing phase] at path
      rw [commandPathLaw_executing (cmd ▸ phase), cmd, free, free, engine]
      exact path
    | replying =>
      rw [commandPathLaw_replying phase] at path
      rw [commandPathLaw_replying (cmd ▸ phase), cmd, free, engine]
      obtain ⟨held, ⟨r, a, reply, flight, write⟩, rest⟩ := path
      obtain ⟨b, after, payload⟩ := flight_of_payload (access _).symm flight
      exact ⟨held, ⟨r, b, reply, after, payload.trans write⟩, rest⟩
  · rw [engine, same]; exact quiet.idle
  · rw [engine, same]; exact quiet.stopped
  · rw [engine, owed, cmd]
    simp only [free]
    intro loading
    obtain ⟨⟨a, flight, setup⟩, rest⟩ := quiet.loading loading
    obtain ⟨b, after, payload⟩ := flight_of_payload (access _).symm flight
    exact ⟨⟨b, after, payload.trans setup⟩, rest⟩

theorem PathLaw.congr (h : PathLaw s) (cmd : t.cmd = s.cmd) (mau : t.mau = s.mau) (owed : t.rings.shadowOwed = s.rings.shadowOwed)
    (engine : t.control.engine = s.control.engine) : PathLaw t :=
  h.ofPayloads cmd (fun r => by rw [State.access_def, State.access_def, mau]) owed engine

theorem replyRequester_ne_event (n : Fin 4) : replyRequester ≠ eventRequester n := by revert n; decide

/-- The blocks' own changes touch neither the command path nor the engine. -/
theorem PathLaw.changes (h : PathLaw s) (active : Active s) (changes : Changes s t) : PathLaw t :=
  .ofActive (active.congr (by rw [changes.control])) (h.1.congr changes.cmd (changes.access commandRequester_ne_event)
    (changes.access replyRequester_ne_event) (by rw [changes.control]))

/-- An access of a requester other than 1 and 2 is handed over or returned. -/
theorem PathLaw.setAccess (h : PathLaw s) (active : Active s) {r : Requester} (command : r ≠ commandRequester) (reply : r ≠ replyRequester)
    (v : Option Access) : PathLaw (s.setAccess r v) :=
  .ofActive active (h.1.congr rfl (State.access_setAccess_ne _ _ _ _ command) (State.access_setAccess_ne _ _ _ _ reply) rfl)

/-- The engine enters FAULT (R190). -/
theorem faultReport_engine (k : FaultKind) (address : Addr) (s : State) : (faultReport k address s).control.engine = .fault := by
  show (Control.reported k address s.control).engine = .fault
  unfold Control.reported
  split <;> rfl

/-- The engine enters a state in which a setup read may stay in flight, or none is. -/
theorem CommandPathLaw.enters (h : CommandPathLaw s) (cmd : t.cmd = s.cmd) (mau : t.mau = s.mau) (notIdle : t.control.engine ≠ .idle)
    (notLoading : t.control.engine ≠ .loading)
    (setupStays : t.control.engine = .fault ∨ (s.control.engine ≠ .loading ∧ s.control.engine ≠ .fault)) : CommandPathLaw t := by
  have access (r : Requester) : t.access r = s.access r := by rw [State.access_def, State.access_def, mau]
  cases phase : s.cmd.phase with
  | waiting =>
    rw [commandPathLaw_waiting phase] at h
    rw [commandPathLaw_waiting (cmd ▸ phase), cmd, access, access]
    obtain ⟨held, reply, replyQuiet, setup⟩ := h
    refine ⟨held, reply, replyQuiet, fun a flight => ⟨(setup a flight).1, ?_⟩⟩
    obtain fault | ⟨notLoading, notFault⟩ := setupStays
    · exact .inr fault
    · exact ((setup a flight).2.elim notLoading notFault).elim
  | fetching =>
    rw [commandPathLaw_fetching phase] at h
    rw [commandPathLaw_fetching (cmd ▸ phase), cmd, access, access]
    obtain ⟨held, reply, replyQuiet, fetch, -, -⟩ := h
    exact ⟨held, reply, replyQuiet, fetch, notIdle, notLoading⟩
  | executing =>
    rw [commandPathLaw_executing phase] at h
    rw [commandPathLaw_executing (cmd ▸ phase), cmd, access, access]
    obtain ⟨held, reply, replyQuiet, quiet, -, -⟩ := h
    exact ⟨held, reply, replyQuiet, quiet, notIdle, notLoading⟩
  | replying =>
    rw [commandPathLaw_replying phase] at h
    rw [commandPathLaw_replying (cmd ▸ phase), cmd, access, access]
    obtain ⟨held, reply, quiet, -, -⟩ := h
    exact ⟨held, reply, quiet, notIdle, notLoading⟩

/-- A fault report where the law holds. -/
theorem PathLaw.fault (h : CommandPathLaw s) (k : FaultKind) (address : Addr) : PathLaw (faultReport k address s) :=
  .ofActive (.inr (.inr (faultReport_engine k address s))) (h.enters rfl rfl (by rw [faultReport_engine]; decide) (by rw [faultReport_engine]; decide)
    (.inl (faultReport_engine k address s)))

/-! ## The checks that start accesses -/

theorem PathLaw.startCommandFetch (h : PathLaw s) : PathLaw (startCommandFetch s) := by
  unfold Machine.startCommandFetch
  split
  · rename_i can
    simp only [canFetchCommand, Bool.and_eq_true, beq_iff_eq] at can
    obtain ⟨⟨⟨⟨phase, run⟩, -⟩, -⟩, -⟩ := can
    obtain ⟨held, reply, replyQuiet, -⟩ := (commandPathLaw_waiting phase).1 h.1
    refine .ofActive (.inl run) ((commandPathLaw_fetching rfl).2 ⟨held, reply, ?_, ⟨_, handOver_access_self _ _ _ _, rfl⟩, ?_, ?_⟩)
    · rw [handOver_access _ _ _ _ _ (by decide)]; exact replyQuiet
    · show s.control.engine ≠ .idle; rw [run]; decide
    · show s.control.engine ≠ .loading; rw [run]; decide
  · exact h

theorem sampleRequester_ne_command (n : Fin 8) : sampleRequester n ≠ commandRequester := by revert n; decide

theorem sampleRequester_ne_reply (n : Fin 8) : sampleRequester n ≠ replyRequester := by revert n; decide

theorem PathLaw.startSampleFetch (h : PathLaw s) (n : Fin 8) : PathLaw (startSampleFetch n s) := by
  unfold Machine.startSampleFetch
  split
  · rename_i can
    simp only [canFetchSamples, Bool.and_eq_true, beq_iff_eq] at can
    obtain ⟨⟨⟨run, -⟩, -⟩, -⟩ := can
    exact h.setAccess (.inl run) (sampleRequester_ne_command n) (sampleRequester_ne_reply n) _
  · exact h

theorem PathLaw.checkWriter (h : PathLaw s) (n : Fin 4) : PathLaw (checkWriter n s) := by
  by_cases ready : writerReady n s = true
  · obtain ⟨-, run, -⟩ := writerReady_iff.1 ready
    exact h.changes (.inl run) (checkWriter_changes n s)
  · unfold Machine.checkWriter; rw [if_neg ready]; exact h

theorem PathLaw.issueShadowWrite (h : PathLaw s) : PathLaw (issueShadowWrite s) := by
  unfold Machine.issueShadowWrite
  split
  · rename_i can
    obtain ⟨-, -, engine⟩ := can
    have active : Active s := engine.imp_right .inl
    have owed : PathLaw (s.setShadowOwed false) := .ofActive active (h.1.congr rfl rfl rfl rfl)
    exact owed.setAccess active (by decide) (by decide) _
  · exact h

/-- What an entry into RUN starts. -/
theorem PathLaw.startAll (h : PathLaw s) : PathLaw (startSampleFetches (Machine.startCommandFetch s)) := by
  have fetches (l : List (Fin 8)) : ∀ u, PathLaw u → PathLaw (l.foldl (fun t n => Machine.startSampleFetch n t) u) := by
    induction l with
    | nil => exact fun _ => id
    | cons n l ih => exact fun u law => ih _ (law.startSampleFetch n)
  exact fetches _ _ h.startCommandFetch

/-- The entry into RUN of a part with nothing in flight. -/
theorem PathLaw.enterRun (cmd : s.cmd = CommandEngine.atReset) (quiet : ∀ r, s.access r = none) : PathLaw (enterRun s) := by
  have run : PathLaw (rebaseDeadlines (s.setEngine .run)) := by
    refine .ofActive (.inl (by rw [rebaseDeadlines_control]; rfl)) (.ofIdle ?_ ?_ ?_)
    · rw [rebaseDeadlines_cmd]; exact cmd
    · rw [rebaseDeadlines_access]; exact quiet _
    · rw [rebaseDeadlines_access]; exact quiet _
  refine run.startAll.changes (.inl ?_) (checkWriters_changes _)
  simp

theorem PathLaw.checkStoppingEnd (h : PathLaw s) : PathLaw (checkStoppingEnd s) := by
  unfold Machine.checkStoppingEnd
  split
  · rename_i ends
    obtain ⟨-, done⟩ := ends
    obtain ⟨quiet, -, waiting⟩ := (drained_iff_quiet s).1 done
    have cmd := h.1.idle waiting
    split
    · exact PathLaw.enterRun (s := s.mapControl fun c => { c with heldStart := false }) cmd quiet
    · exact ⟨.ofIdle (s := s.setEngine .stopped) cmd (quiet _) (quiet _), by rintro ⟨⟩, fun _ => done, by rintro ⟨⟩⟩
  · exact h

/-! ## Commands -/

/-- A reply is handed over: the state is REPLYING (R42). -/
theorem PathLaw.sendReply (active : Active s) (quiet : s.access commandRequester = none) (rec : CommandRecord) (status : Status)
    (words : Words) : PathLaw (sendReply rec status words s) := by
  refine .ofActive active ((commandPathLaw_replying rfl).2 ⟨rfl, ⟨_, _, rfl, handOver_access_self _ _ _ _, rfl⟩, ?_, active.not.1, active.not.2.2⟩)
  exact (handOver_access _ _ _ _ _ (by decide)).trans quiet

/-- What the owner of a command leaves of the control unit and of the accesses (R38). -/
theorem ownerOf_done {rec : CommandRecord} {status : Status} {words : Words} {u : State} (answer : ownerOf rec s = .done status words u) :
    u.control = s.control ∧ u.access commandRequester = s.access commandRequester := by
  have asked := perform_setCmd CommandEngine.atReset rec.index rec.flags rec.request s
  rw [show perform rec.index rec.flags rec.request s = _ from answer] at asked
  have changed := perform_changes rec.index rec.flags rec.request (s := s.setCmd CommandEngine.atReset)
    (show CommandPhase.waiting ≠ .executing by decide)
  rw [asked] at changed
  have changes : Changes (s.setCmd CommandEngine.atReset) (u.setCmd CommandEngine.atReset) := changed
  exact ⟨changes.control, changes.access commandRequester_ne_event⟩

/-- A command is taken where requesters 1 and 2 are free (R36). -/
theorem PathLaw.takeCommand (active : Active s) (quiet : s.access commandRequester = none) (replyQuiet : s.access replyRequester = none)
    (rec : CommandRecord) : PathLaw (takeCommand rec (ownerOf rec) s) := by
  refine PathLaw.checkStoppingEnd (PathLaw.issueShadowWrite ?_)
  cases answer : ownerOf rec (holdCommand rec s) with
  | done status words u =>
    obtain ⟨control, access⟩ := ownerOf_done answer
    exact PathLaw.sendReply (active.congr (by rw [control]; rfl)) (access.trans quiet) rec status words
  | waits =>
    exact .ofActive active ((commandPathLaw_executing rfl).2 ⟨rfl, rfl, replyQuiet, quiet, active.not.1, active.not.2.2⟩)

/-- A sample ring command that waited goes on. -/
theorem PathLaw.resumeSampleCommand (h : PathLaw s) (active : Active s) (n : Fin 8) : PathLaw (resumeSampleCommand n s) := by
  unfold Machine.resumeSampleCommand
  split
  · rename_i rec phase held
    obtain ⟨-, -, -, quiet, -⟩ := (commandPathLaw_executing phase).1 h.1
    split
    · cases rec.request with
      | openSampleRing base slots =>
        exact PathLaw.sendReply (s := (s.setSampleRing n (SampleRing.openedWith base slots.toNat)).setShadowOwed true) active quiet _ _ _
      | closeSampleRing =>
        exact PathLaw.sendReply (s := s.setSampleRing n { s.rings.sample[n] with state := .closed, cause := .noCause }) active quiet _ _ _
      | _ => exact h
    · exact h
  · exact h

/-- An event ring command that waited goes on. -/
theorem PathLaw.resumeEventCommand (h : PathLaw s) (active : Active s) (n : Fin 4) : PathLaw (resumeEventCommand n s) := by
  unfold Machine.resumeEventCommand
  split
  · rename_i rec phase held
    obtain ⟨-, -, -, quiet, -⟩ := (commandPathLaw_executing phase).1 h.1
    split
    · cases rec.request with
      | openEventRing base slots notify floor =>
        dsimp only
        split
        · refine PathLaw.sendReply (active.congr ?_) ?_ _ _ _
          · rw [checkWriter_control]; split <;> rfl
          · rw [checkWriter_access _ _ _ (commandRequester_ne_event n)]; split <;> exact quiet
        · exact h
      | closeEventRing =>
        exact PathLaw.sendReply (s := (s.setEventRing n { s.rings.event[n] with
          state := .closed, cause := .noCause, attention := false }).setDelivery n Delivery.atReset) active quiet _ _ _
      | _ => exact h
    · exact h
  · exact h

/-! ## Rows of the host link -/

/-- An access is in flight in no quiet state but LOADING, and there it is the setup read. -/
theorem PathLaw.active (h : PathLaw s) {r : Requester} {a : Access} (flight : s.access r = some a) (other : r ≠ commandRequester) : Active s := by
  unfold Active
  have busy (done : drained s = true) : False := by
    obtain ⟨quiet, -⟩ := (drained_iff_quiet s).1 done
    exact absurd ((quiet r).symm.trans flight) (by rintro ⟨⟩)
  cases engine : s.control.engine with
  | idle => exact (busy (h.2.idle engine)).elim
  | stopped => exact (busy (h.2.stopped engine)).elim
  | loading =>
    obtain ⟨-, quiet, -⟩ := h.2.loading engine
    exact absurd ((quiet r other).symm.trans flight) (by rintro ⟨⟩)
  | _ => simp

/-- A reply write leaves requester 1 free. -/
theorem PathLaw.replying (h : PathLaw s) {a : Access} (flight : s.access replyRequester = some a) : s.access commandRequester = none := by
  cases phase : s.cmd.phase with
  | waiting =>
    obtain ⟨-, -, quiet, -⟩ := (commandPathLaw_waiting phase).1 h.1
    exact absurd (quiet.symm.trans flight) (by rintro ⟨⟩)
  | fetching =>
    obtain ⟨-, -, quiet, -⟩ := (commandPathLaw_fetching phase).1 h.1
    exact absurd (quiet.symm.trans flight) (by rintro ⟨⟩)
  | executing => exact ((commandPathLaw_executing phase).1 h.1).2.2.2.1
  | replying => exact ((commandPathLaw_replying phase).1 h.1).2.2.1

/-- The setup read is in flight in LOADING alone, and in FAULT. -/
theorem PathLaw.loading (h : PathLaw s) {a : Access} (flight : s.access commandRequester = some a) (setup : a.payload = .setupRead)
    (notFault : s.control.engine ≠ .fault) : s.cmd = CommandEngine.atReset ∧ s.control.engine = .loading := by
  cases phase : s.cmd.phase with
  | waiting =>
    obtain ⟨-, -, -, only⟩ := (commandPathLaw_waiting phase).1 h.1
    exact ⟨h.1.idle phase, (only a flight).2.resolve_right notFault⟩
  | fetching =>
    obtain ⟨-, -, -, ⟨b, here, fetch⟩, -⟩ := (commandPathLaw_fetching phase).1 h.1
    obtain rfl := Option.some.inj (here.symm.trans flight)
    exact absurd (fetch.symm.trans setup) (by rintro ⟨⟩)
  | executing =>
    obtain ⟨-, -, -, quiet, -⟩ := (commandPathLaw_executing phase).1 h.1
    exact absurd (quiet.symm.trans flight) (by rintro ⟨⟩)
  | replying =>
    obtain ⟨-, -, quiet, -⟩ := (commandPathLaw_replying phase).1 h.1
    exact absurd (quiet.symm.trans flight) (by rintro ⟨⟩)

/-- A command fetch is in flight in FETCHING alone. -/
theorem PathLaw.fetching (h : PathLaw s) {a : Access} (flight : s.access commandRequester = some a) (fetch : a.payload = .commandFetch) :
    Active s ∧ s.cmd.held = none ∧ s.cmd.reply = none ∧ s.access replyRequester = none := by
  have phase : s.cmd.phase = .fetching := by
    cases phase : s.cmd.phase with
    | fetching => rfl
    | waiting =>
      obtain ⟨-, -, -, setup⟩ := (commandPathLaw_waiting phase).1 h.1
      exact absurd (fetch.symm.trans (setup a flight).1) (by rintro ⟨⟩)
    | executing =>
      obtain ⟨-, -, -, quiet, -⟩ := (commandPathLaw_executing phase).1 h.1
      exact absurd (quiet.symm.trans flight) (by rintro ⟨⟩)
    | replying =>
      obtain ⟨-, -, quiet, -⟩ := (commandPathLaw_replying phase).1 h.1
      exact absurd (quiet.symm.trans flight) (by rintro ⟨⟩)
  obtain ⟨held, reply, replyQuiet, -, notIdle, notLoading⟩ := (commandPathLaw_fetching phase).1 h.1
  refine ⟨?_, held, reply, replyQuiet⟩
  unfold Active
  cases engine : s.control.engine with
  | idle => exact absurd engine notIdle
  | loading => exact absurd engine notLoading
  | stopped =>
    obtain ⟨-, -, waiting⟩ := (drained_iff_quiet s).1 (h.2.stopped engine)
    exact absurd (phase.symm.trans waiting) (by decide)
  | _ => simp

/-- An access goes onto the link, or has returned in FAULT; it is in flight as before. -/
theorem PathLaw.phase (h : PathLaw s) {r : Requester} {a : Access} (p : AccessPhase) (l : Requester) (flight : s.access r = some a) :
    PathLaw ((s.setAccess r (some { a with phase := p })).mapMau fun m => { m with lastGranted := l }) := by
  refine h.ofPayloads rfl (fun q => ?_) rfl rfl
  change ((s.setAccess r (some { a with phase := p })).access q).map Access.payload = _
  rw [State.access_setAccess]
  split
  · rename_i same; rw [← same, flight]; rfl
  · rfl

/-- A completion row keeps the laws where its block does. -/
theorem PathLaw.onArrival (h : PathLaw s) {r : Requester} {kind : Payload → Bool} {deliver : Access → State → State}
    (law : ∀ a, s.access r = some a → kind a.payload = true → s.control.engine ≠ .fault → PathLaw (deliver a (s.setAccess r none)))
    (next : onArrival r kind s deliver = .next t) : PathLaw t := by
  obtain ⟨a, flight, -, payload, ⟨-, rfl⟩ | ⟨notFault, rfl⟩⟩ := onArrival_next next
  · exact h.phase .returned s.mau.lastGranted flight
  · exact law a flight payload notFault

theorem PathLaw.onCommandFetch (h : PathLaw s) (rec : CommandRecord) (next : onCommandFetch rec (ownerOf rec) s = .next t) : PathLaw t := by
  refine h.onArrival (fun a flight payload _ => ?_) next
  obtain ⟨active, -, -, replyQuiet⟩ := h.fetching flight (by revert payload; cases a.payload <;> simp [isCommandFetch])
  exact PathLaw.takeCommand (s := s.setAccess commandRequester none) active (State.access_setAccess_self _ _ _)
    ((State.access_setAccess_ne _ _ _ _ (by decide)).trans replyQuiet) rec

theorem PathLaw.commandFetchCompletion (h : PathLaw s) {result : Completion (Vector Byte 32)}
    (next : execCommandFetchCompletion result s = .next t) : PathLaw t := by
  refine h.onArrival (fun a flight payload _ => ?_) next
  obtain ⟨active, -, -, replyQuiet⟩ := h.fetching flight (by revert payload; cases a.payload <;> simp [isCommandFetch])
  have quiet : (s.setAccess commandRequester none).access commandRequester = none := State.access_setAccess_self _ _ _
  have replyFree : (s.setAccess commandRequester none).access replyRequester = none :=
    (State.access_setAccess_ne _ _ _ _ (by decide)).trans replyQuiet
  cases result with
  | ok bytes => exact PathLaw.takeCommand (s := s.setAccess commandRequester none) active quiet replyFree _
  | accessError =>
    exact PathLaw.fault (s := (s.setAccess commandRequester none).setCmd CommandEngine.atReset) (.ofIdle rfl quiet replyFree) _ _

theorem PathLaw.setupReadCompletion (h : PathLaw s) {result : Completion (Vector Byte 28)}
    (next : execSetupReadCompletion result s = .next t) : PathLaw t := by
  refine h.onArrival (fun a flight payload notFault => ?_) next
  have setup : a.payload = .setupRead := by revert payload; cases a.payload <;> simp [isSetupRead]
  obtain ⟨cmd, loading⟩ := h.loading flight setup notFault
  obtain ⟨-, others, owed, -⟩ := h.2.loading loading
  have quiet (r : Requester) : (s.setAccess commandRequester none).access r = none := by
    rw [State.access_setAccess]
    split
    · rfl
    · exact others r (Ne.symm ‹_›)
  have failed (k : FaultKind) (address : Addr) : PathLaw (faultReport k address (s.setAccess commandRequester none)) :=
    .fault (.ofIdle (s := s.setAccess commandRequester none) cmd (quiet _) (quiet _)) k address
  cases result with
  | accessError => exact failed _ _
  | ok bytes =>
    dsimp only
    split
    · unfold endLoad
      split
      · refine ⟨.ofIdle cmd (quiet _) (quiet _), by rintro ⟨⟩, fun _ => ?_, by rintro ⟨⟩⟩
        exact (drained_iff_quiet _).2 ⟨quiet, owed, congrArg CommandEngine.phase cmd⟩
      · exact PathLaw.startAll (.ofActive (.inl rfl) (.ofIdle cmd (quiet _) (quiet _)))
    · exact failed _ _

theorem PathLaw.replyWriteCompletion (h : PathLaw s) {result : Completion Unit} (next : execReplyWriteCompletion result s = .next t) :
    PathLaw t := by
  refine h.onArrival (fun a flight payload _ => ?_) next
  have active := h.active flight (by decide)
  have command : (s.setAccess replyRequester none).access commandRequester = none :=
    (State.access_setAccess_ne _ _ _ _ (by decide)).trans (h.replying flight)
  have reply : (s.setAccess replyRequester none).access replyRequester = none := State.access_setAccess_self _ _ _
  cases result with
  | ok _ =>
    refine PathLaw.checkStoppingEnd (PathLaw.startCommandFetch (.ofActive ?_ (.ofIdle rfl command reply)))
    exact active
  | accessError =>
    exact PathLaw.fault (s := (s.setAccess replyRequester none).setCmd CommandEngine.atReset) (.ofIdle rfl command reply) _ _

theorem PathLaw.shadowWriteCompletion (h : PathLaw s) {result : Completion Unit} (next : execShadowWriteCompletion result s = .next t) :
    PathLaw t := by
  refine h.onArrival (fun a flight _ _ => ?_) next
  have returned := h.setAccess (h.active flight (by decide)) (r := shadowRequester) (by decide) (by decide) none
  cases result with
  | ok _ => exact returned.issueShadowWrite.checkStoppingEnd
  | accessError => exact .fault returned.1 _ _

theorem PathLaw.afterSampleFetch (h : PathLaw s) (active : Active s) (n : Fin 8) : PathLaw (afterSampleFetch n s) :=
  (((h.resumeSampleCommand active n).startSampleFetch n).issueShadowWrite).checkStoppingEnd

theorem PathLaw.sampleFetchCompletion (h : PathLaw s) {n : Fin 8} {result : Completion (List (Vector Byte 8))}
    (next : execSampleFetchCompletion n result s = .next t) : PathLaw t := by
  refine h.onArrival (fun a flight _ _ => ?_) next
  have active := h.active flight (sampleRequester_ne_command n)
  have returned := h.setAccess active (sampleRequester_ne_command n) (sampleRequester_ne_reply n) none
  have after {u : State} (changes : Changes (s.setAccess (sampleRequester n) none) u) : PathLaw (Machine.afterSampleFetch n u) :=
    (returned.changes active changes).afterSampleFetch (active.congr (by rw [changes.control]; rfl)) n
  cases result with
  | ok records => exact after (takeSamples_changes _ _ _)
  | accessError => exact after (SampleRing.faultWith_change (by decide) _).one

theorem PathLaw.afterEventWrite (h : PathLaw s) (active : Active s) (n : Fin 4) : PathLaw (afterEventWrite n s) :=
  ((h.resumeEventCommand active n).checkWriter n).checkStoppingEnd

/-- A record that is settled touches its ring and its delivery state alone. -/
theorem PathLaw.settled (h : PathLaw s) (active : Active s) (n : Fin 4) {u : State} (cmd : u.cmd = s.cmd) (mau : u.mau = s.mau)
    (owed : u.rings.shadowOwed = s.rings.shadowOwed) (control : u.control = s.control) : PathLaw (Machine.afterEventWrite n u) :=
  (h.congr cmd mau owed (by rw [control])).afterEventWrite (active.congr (by rw [control])) n

theorem PathLaw.eventReturned (h : PathLaw s) (active : Active s) (n : Fin 4) : PathLaw (s.setAccess (eventRequester n) none) :=
  h.setAccess active (commandRequester_ne_event n).symm (replyRequester_ne_event n).symm none

theorem PathLaw.eventWriteCompletion (h : PathLaw s) {n : Fin 4} {result : Completion Unit}
    (next : execEventWriteCompletion n result s = .next t) : PathLaw t := by
  refine h.onArrival (fun a flight _ _ => ?_) next
  have active := h.active flight (commandRequester_ne_event n).symm
  have returned := h.eventReturned active n
  cases result with
  | ok _ => refine returned.settled active n ?_ ?_ ?_ ?_ <;> cases a.payload <;> rfl
  | accessError => exact returned.settled active n rfl rfl rfl rfl

theorem PathLaw.overrunWriteCompletion (h : PathLaw s) {n : Fin 4} {result : Completion Unit}
    (next : execOverrunWriteCompletion n result s = .next t) : PathLaw t := by
  refine h.onArrival (fun a flight _ _ => ?_) next
  have active := h.active flight (commandRequester_ne_event n).symm
  have returned := h.eventReturned active n
  cases result with
  | ok _ =>
    refine returned.settled active n ?_ ?_ ?_ ?_ <;> unfold overrunDelivered <;> split <;> rfl
  | accessError => exact returned.settled active n rfl rfl rfl rfl

theorem PathLaw.memoryAccessGrant (h : PathLaw s) (next : execMemoryAccessGrant s = .next t) : PathLaw t := by
  unfold execMemoryAccessGrant grantTo at next
  split at next
  · cases next; exact h
  · split at next
    · cases next
      split
      · exact h.phase .onLink _ ‹_›
      · exact h
    · cases next; exact h

theorem PathLaw.completionDiscarded (h : PathLaw s) {r : Requester} {epoch : Nat} (next : execCompletionDiscarded r epoch s = .next t) :
    PathLaw t := by
  unfold execCompletionDiscarded at next
  split at next
  · cases next; exact h.ofPayloads rfl (fun _ => rfl) rfl rfl
  · split at next
    · rename_i a flight
      split at next
      · split at next
        · cases next; exact h.phase .returned s.mau.lastGranted flight
        · cases next
      · cases next
    · cases next

/-! ## Rows of the register window and the clock -/

theorem PathLaw.busWrite (h : PathLaw s) {effect : State → State} (law : PathLaw (effect s)) : PathLaw (busWrite effect s) := by
  unfold Machine.busWrite
  split
  · exact h
  · exact law

theorem PathLaw.startCode (h : PathLaw s) : PathLaw (startCode s) := by
  unfold Machine.startCode
  split
  · rename_i idle
    obtain ⟨quiet, owed, waiting⟩ := (drained_iff_quiet s).1 (h.2.idle idle)
    have setup : setupReadInFlight (startLoad s) := ⟨_, handOver_access_self _ _ _ _, rfl⟩
    have others (r : Requester) (other : r ≠ commandRequester) : (startLoad s).access r = none :=
      (handOver_access _ _ _ _ _ other).trans (quiet r)
    obtain ⟨held, reply, -⟩ := (commandPathLaw_waiting waiting).1 h.1
    refine ⟨(commandPathLaw_waiting (s := startLoad s) waiting).2 ⟨held, reply, others _ (by decide), fun a flight => ?_⟩, by rintro ⟨⟩, by rintro ⟨⟩,
      fun _ => ⟨setup, others, owed, waiting⟩⟩
    obtain ⟨b, here, payload⟩ := setup
    obtain rfl := Option.some.inj (here.symm.trans flight)
    exact ⟨payload, .inl rfl⟩
  · exact h.congr rfl rfl rfl rfl
  · rename_i stopped
    obtain ⟨quiet, -, waiting⟩ := (drained_iff_quiet s).1 (h.2.stopped stopped)
    exact .enterRun (h.1.idle waiting) quiet
  all_goals exact h

theorem PathLaw.stopCode (h : PathLaw s) : PathLaw (stopCode s) := by
  unfold Machine.stopCode
  split
  · exact h.congr rfl rfl rfl rfl
  · rename_i run
    refine PathLaw.checkStoppingEnd (.ofActive (.inr (.inl rfl)) ?_)
    exact h.1.enters rfl rfl (show EngineState.stopping ≠ .idle by decide) (show EngineState.stopping ≠ .loading by decide)
      (.inr (by rw [run]; decide))
  all_goals exact h

theorem PathLaw.reset {s : State} (engine : s.control.engine = .idle) (cmd : s.cmd = CommandEngine.atReset)
    (owed : s.rings.shadowOwed = false) (quiet : ∀ r, s.access r = none) : PathLaw s :=
  ⟨.ofIdle cmd (quiet _) (quiet _), fun _ => (drained_iff_quiet s).2 ⟨quiet, owed, by rw [cmd]; rfl⟩,
    fun stopped => absurd (engine.symm.trans stopped) (by decide), fun loading => absurd (engine.symm.trans loading) (by decide)⟩

theorem PathLaw.softReset (s : State) : PathLaw (softReset s) := .reset rfl rfl rfl (access_afterReset (softReset_mau s))

theorem PathLaw.hardReset (s : State) : PathLaw (hardReset s) := .reset rfl rfl rfl (access_afterReset (hardReset_mau s))

theorem PathLaw.writeSetupLo (h : PathLaw s) (value : Word) : PathLaw (writeSetupLo value s) := by
  unfold Machine.writeSetupLo
  split
  · exact h.congr rfl rfl rfl rfl
  · exact h

theorem PathLaw.writeSetupHi (h : PathLaw s) (value : Word) : PathLaw (writeSetupHi value s) := by
  unfold Machine.writeSetupHi
  split
  · exact h.congr rfl rfl rfl rfl
  · exact h

theorem PathLaw.postCommand (h : PathLaw s) (i : Nat) : PathLaw (postCommand i s) := by
  unfold Machine.postCommand
  dsimp only
  split
  · exact h
  · split
    · exact PathLaw.startCommandFetch (s := s.setCommandRing { s.rings.command with producer := i }) (h.congr rfl rfl rfl rfl)
    · exact .fault h.1 _ _

theorem PathLaw.postReply (h : PathLaw s) (i : Nat) : PathLaw (postReply i s) := by
  unfold Machine.postReply
  dsimp only
  split
  · exact h
  · split
    · exact PathLaw.startCommandFetch (s := s.setReplyRing (s.rings.reply.consumed i)) (h.congr rfl rfl rfl rfl)
    · exact .fault h.1 _ _

theorem PathLaw.setSampleRing (h : PathLaw s) (n : Fin 8) (r : SampleRing) : PathLaw (s.setSampleRing n r) := h.congr rfl rfl rfl rfl

theorem PathLaw.setEventRing (h : PathLaw s) (n : Fin 4) (r : EventRing) : PathLaw (s.setEventRing n r) := h.congr rfl rfl rfl rfl

theorem PathLaw.postSample (h : PathLaw s) (n : Fin 8) (i : Nat) : PathLaw (postSample n i s) := by
  unfold Machine.postSample
  dsimp only
  split
  · exact h
  · split
    · exact (h.setSampleRing n _).startSampleFetch n
    · exact h.setSampleRing n _

theorem PathLaw.postEvent (h : PathLaw s) (n : Fin 4) (i : Nat) : PathLaw (postEvent n i s) := by
  unfold Machine.postEvent
  dsimp only
  split
  · exact h
  · split
    · exact (h.setEventRing n _).checkWriter n
    · exact h.setEventRing n _

theorem PathLaw.writePost (h : PathLaw s) (word : Word) : PathLaw (writePost word s) := by
  unfold Machine.writePost
  split
  · exact h
  · split
    · exact h
    · exact h.postCommand _
    · exact h.postReply _
    · exact h.postSample _ _
    · exact h.postEvent _ _

theorem PathLaw.writeRegister (h : PathLaw s) (offset : Nat) (value : Word) : PathLaw (writeRegister offset value s) := by
  unfold Machine.writeRegister
  split
  · split
    · exact h.startCode
    · split
      · exact h.stopCode
      · split
        · exact .softReset s
        · exact h
  · split
    · exact h.writeSetupLo value
    · split
      · exact h.writeSetupHi value
      · split
        · exact h.writePost value
        · exact h

/-- Nothing expires outside RUN (R64). -/
theorem PathLaw.expireIfDue (h : PathLaw s) (i : Fin 64) : PathLaw (expireIfDue i s) := by
  by_cases due : expiryDue i s = true
  · have run : s.control.engine = .run := by
      simp only [expiryDue, Bool.and_eq_true, beq_iff_eq] at due
      exact due.1.1
    exact h.changes (.inl run) (expireIfDue_changes i s)
  · unfold Machine.expireIfDue; rw [if_neg due]; exact h

theorem PathLaw.takeDueExpiries (h : PathLaw s) : PathLaw (takeDueExpiries s) := by
  have walk (l : List (Fin 64)) : ∀ u, PathLaw u → PathLaw (l.foldl (fun t i => Machine.expireIfDue i t) u) := by
    induction l with
    | nil => exact fun _ => id
    | cons i l ih => exact fun u law => ih _ (law.expireIfDue i)
  exact walk _ _ h

theorem PathLaw.advanceTime (h : PathLaw s) : PathLaw (advanceTime s) := h.congr rfl rfl rfl rfl

theorem PathLaw.timeBaseTick (h : PathLaw s) (next : execTimeBaseTick s = .next t) : PathLaw t := by
  obtain rfl := Host.Outcome.next.inj next
  split
  · exact h
  · exact h.takeDueExpiries.advanceTime

theorem PathLaw.readTimeLo (h : PathLaw s) (lanes : BitVec 4) : PathLaw (readTimeLo lanes s) := by
  unfold Machine.readTimeLo
  dsimp only
  split <;> exact h.congr rfl rfl rfl rfl

/-- Every row keeps the laws of the command path. -/
theorem PathLaw.exec (h : PathLaw s) {i : Instr} (next : exec i s = .next t) : PathLaw t := by
  cases request : i.request with
  | some hq =>
    rw [exec_of_request request] at next
    exact h.onCommandFetch _ next
  | none =>
    cases i with
    | start => cases next; exact h.busWrite h.startCode
    | stop => cases next; exact h.busWrite h.stopCode
    | reset => cases next; exact h.busWrite (.softReset s)
    | setupLo value => cases next; exact h.busWrite (h.writeSetupLo value)
    | setupHi value => cases next; exact h.busWrite (h.writeSetupHi value)
    | producerPost word | consumerPost word => cases next; exact h.busWrite (h.writePost word)
    | timeLoRead lanes => cases next; exact h.readTimeLo lanes
    | registerWriteIgnored offset lanes value =>
      cases next
      split
      · exact h.busWrite (h.writeRegister offset value)
      · exact h
    | hardwareReset => cases next; exact .hardReset s
    | rstNRelease => cases next; exact h.congr rfl rfl rfl rfl
    | memoryAccessGrant => exact h.memoryAccessGrant next
    | setupReadCompletion result => exact h.setupReadCompletion next
    | commandFetchCompletion result => exact h.commandFetchCompletion next
    | replyWriteCompletion result => exact h.replyWriteCompletion next
    | shadowWriteCompletion result => exact h.shadowWriteCompletion next
    | sampleFetchCompletion n result => exact h.sampleFetchCompletion next
    | eventWriteCompletion n result => exact h.eventWriteCompletion next
    | overrunWriteCompletion n result => exact h.overrunWriteCompletion next
    | completionDiscarded r epoch => exact h.completionDiscarded next
    | silenceExpiry i => cases next; exact h.expireIfDue i
    | timeBaseTick => exact h.timeBaseTick next
    | _ => cases request

end

/-- Settles O55: every row keeps the laws of the command path and of the quiet states. -/
theorem stepsKeepTheCommandPathLaw : Obligations.StepsKeepTheCommandPathLaw := by
  intro s t (h : PathLaw s) next
  unfold step at next
  split at next
  · cases next; exact h
  · rename_i c rest _
    have queued : PathLaw (s.withPending rest) := h.congr rfl rfl rfl rfl
    exact queued.exec next

end Sys2Proof.Machine
end

section
/-!
PROOFS. The rows of the host link (chapter 1.8): which rows stop (log 8), the grant (R18), and completions that reach no block (R20, R21).
-/

namespace Sys2Proof.Machine

section
variable {i : Instr} {s : State}

/-! ## Rows that complete an access -/

/-- A host command's row completes command fetches. -/
theorem rowCompletes_of_request {hq : CmdHeader × Request} (request : i.request = some hq) : rowCompletes i = isCommandFetch := by
  cases i <;> cases request <;> funext p <;> cases p <;> rfl

/-- Every row that completes an access is an arrival of what it completes (R19). -/
theorem exec_eq_onArrival {r : Requester} (row : rowRequester i = some r) (s : State) :
    ∃ deliver, exec i s = onArrival r (rowCompletes i) s deliver := by
  cases request : i.request with
  | some hq =>
    have requester : rowRequester i = some commandRequester := by cases i <;> cases request <;> rfl
    obtain rfl := Option.some.inj (requester.symm.trans row)
    rw [exec_of_request request, rowCompletes_of_request request]
    exact ⟨_, rfl⟩
  | none =>
    have arrival {kind : Payload → Bool} {deliver : Access → State → State} (kinds : ∀ p, rowCompletes i p = kind p)
        (eq : exec i s = onArrival r kind s deliver) : ∃ deliver, exec i s = onArrival r (rowCompletes i) s deliver :=
      ⟨deliver, by rw [eq, funext kinds]⟩
    cases i with
    | setupReadCompletion result => cases row; exact arrival (by intro p; cases p <;> rfl) rfl
    | commandFetchCompletion result => cases row; exact arrival (by intro p; cases p <;> rfl) rfl
    | replyWriteCompletion result => cases row; exact arrival (by intro p; cases p <;> rfl) rfl
    | shadowWriteCompletion result => cases row; exact arrival (by intro p; cases p <;> rfl) rfl
    | sampleFetchCompletion n result =>
      cases row
      refine arrival (kind := isSampleFetch (recordCount result)) (fun p => ?_) rfl
      cases p with
      | sampleFetch count =>
        cases result with
        | ok records => exact Bool.beq_comm
        | accessError => rfl
      | _ => cases result <;> rfl
    | eventWriteCompletion n result =>
      cases row
      refine arrival (kind := isEntryWrite) (fun p => ?_) rfl
      cases p with
      | eventWrite r => cases r <;> rfl
      | _ => rfl
    | overrunWriteCompletion n result =>
      cases row
      refine arrival (kind := isOverrunWrite) (fun p => ?_) rfl
      cases p with
      | eventWrite r => cases r <;> rfl
      | _ => rfl
    | start | stop | reset | setupLo | setupHi | producerPost | consumerPost | timeLoRead | registerWriteIgnored | hardwareReset
      | rstNRelease | memoryAccessGrant | completionDiscarded | silenceExpiry | timeBaseTick => cases row
    | _ => cases request

/-- A row that completes nothing answers a next state in every state. -/
theorem exec_next_of_completes_none (row : rowRequester i = none) (notDiscarded : ∀ r e, i ≠ .completionDiscarded r e) (s : State) :
    ∃ t, exec i s = .next t := by
  cases i with
  | completionDiscarded r e => exact absurd rfl (notDiscarded r e)
  | memoryAccessGrant =>
    show ∃ t, execMemoryAccessGrant s = .next t
    unfold execMemoryAccessGrant
    split
    · exact ⟨_, rfl⟩
    · split <;> exact ⟨_, rfl⟩
  | start | stop | reset | setupLo | setupHi | producerPost | consumerPost | timeLoRead | registerWriteIgnored | hardwareReset | rstNRelease
    | silenceExpiry | timeBaseTick => exact ⟨_, rfl⟩
  | _ => cases row

/-! ## Discarded completions (R20, R21) -/

/-- An access of an older epoch of requester `r` is on the link. -/
theorem any_isStaleOf {r : Requester} {epoch : Nat} :
    s.mau.stale.any (isStaleOf r epoch) = true ↔ ∃ x ∈ s.mau.stale, x.1 = r ∧ x.2.epoch = epoch := by
  simp [isStaleOf]

section
variable {r : Requester} {epoch : Nat}

theorem completionDiscarded_older (older : ∃ x ∈ s.mau.stale, x.1 = r ∧ x.2.epoch = epoch) :
    exec (.completionDiscarded r epoch) s = .next (s.mapMau fun m => { m with stale := m.stale.eraseP (isStaleOf r epoch) }) :=
  if_pos (any_isStaleOf.2 older)

/-- The access named is not of an older epoch. -/
theorem completionDiscarded_notOlder (notOlder : ¬ ∃ x ∈ s.mau.stale, x.1 = r ∧ x.2.epoch = epoch) :
    exec (.completionDiscarded r epoch) s =
      match s.access r with
      | some a =>
        if a.phase = .onLink ∧ a.epoch = epoch then
          if s.control.engine = .fault then .next (s.setAccess r (some { a with phase := .returned })) else .refused .notDiscarded
        else .refused .noSuchAccess
      | none => .refused .noSuchAccess := by
  show execCompletionDiscarded r epoch s = _
  unfold execCompletionDiscarded
  exact if_neg (any_isStaleOf.not.2 notOlder)

theorem completionDiscarded_current {a : Access} (notOlder : ¬ ∃ x ∈ s.mau.stale, x.1 = r ∧ x.2.epoch = epoch)
    (flight : s.access r = some a) (onLink : a.phase = .onLink) (current : a.epoch = epoch) :
    exec (.completionDiscarded r epoch) s =
      if s.control.engine = .fault then .next (s.setAccess r (some { a with phase := .returned })) else .refused .notDiscarded := by
  rw [completionDiscarded_notOlder notOlder, flight]
  exact if_pos ⟨onLink, current⟩

theorem completionDiscarded_absent (notOlder : ¬ ∃ x ∈ s.mau.stale, x.1 = r ∧ x.2.epoch = epoch)
    (absent : ¬ ∃ a, s.access r = some a ∧ a.phase = .onLink ∧ a.epoch = epoch) :
    exec (.completionDiscarded r epoch) s = .refused .noSuchAccess := by
  rw [completionDiscarded_notOlder notOlder]
  cases flight : s.access r with
  | none => rfl
  | some a => exact if_neg fun here => absent ⟨a, flight, here⟩

end

/-- What COMPLETION_DISCARDED answers, in the three cases. -/
theorem completionDiscarded_answers (r : Requester) (epoch : Nat) (s : State) :
    let older := ∃ x ∈ s.mau.stale, x.1 = r ∧ x.2.epoch = epoch
    let current := ∃ a, s.access r = some a ∧ a.phase = .onLink ∧ a.epoch = epoch
    ((∃ t, exec (.completionDiscarded r epoch) s = .next t) ↔ older ∨ (current ∧ s.control.engine = .fault)) ∧
      (exec (.completionDiscarded r epoch) s = .refused .notDiscarded ↔ ¬ older ∧ current ∧ s.control.engine ≠ .fault) ∧
      (exec (.completionDiscarded r epoch) s = .refused .noSuchAccess ↔ ¬ older ∧ ¬ current) := by
  intro older current
  by_cases isOlder : older
  · rw [completionDiscarded_older isOlder]
    simp [isOlder]
  · by_cases isCurrent : current
    · obtain ⟨a, flight, onLink, epochs⟩ := isCurrent
      rw [completionDiscarded_current isOlder flight onLink epochs]
      have here : current := ⟨a, flight, onLink, epochs⟩
      by_cases fault : s.control.engine = .fault <;> simp [isOlder, here, fault]
    · rw [completionDiscarded_absent isOlder isCurrent]
      simp [isOlder, isCurrent]

theorem completionDiscarded_ne_fault (r : Requester) (epoch : Nat) (s : State) (f : Fault) :
    exec (.completionDiscarded r epoch) s ≠ .fault f := by
  show execCompletionDiscarded r epoch s ≠ .fault f
  unfold execCompletionDiscarded
  split
  · rintro ⟨⟩
  · split
    · split
      · split <;> rintro ⟨⟩
      · rintro ⟨⟩
    · rintro ⟨⟩

/-- Settles O4: a row either is an arrival, or answers a next state, or is a discard. -/
theorem onlyMissingAccessesStop : Obligations.OnlyMissingAccessesStop := by
  intro i s
  have discards (r : Requester) (e : Nat) (h : i = .completionDiscarded r e) := h ▸ completionDiscarded_answers r e s
  refine ⟨fun f fault => ?_, fun notDiscarded row => exec_next_of_completes_none row notDiscarded s, fun r row => ?_, ?_⟩
  · cases row : rowRequester i with
    | some r =>
      obtain ⟨deliver, arrival⟩ := exec_eq_onArrival row s
      rw [arrival] at fault
      obtain ⟨t, next⟩ | refused := onArrival_next_or_refused r s (rowCompletes i) deliver
      · exact absurd (next.symm.trans fault) (by rintro ⟨⟩)
      · exact absurd (refused.symm.trans fault) (by rintro ⟨⟩)
    | none =>
      by_cases discarded : ∃ r e, i = .completionDiscarded r e
      · obtain ⟨r, e, rfl⟩ := discarded
        exact completionDiscarded_ne_fault r e s f fault
      · obtain ⟨t, next⟩ := exec_next_of_completes_none row (fun r e h => discarded ⟨r, e, h⟩) s
        exact absurd (next.symm.trans fault) (by rintro ⟨⟩)
  · obtain ⟨deliver, arrival⟩ := exec_eq_onArrival row s
    rw [arrival]
    exact ⟨onArrival_isNext, onArrival_next_or_refused _ _ _ _⟩
  · exact fun r e h => h ▸ completionDiscarded_answers r e s

/-- Settles O26: an arrival in FAULT, or an erasure among the accesses of older epochs. -/
theorem discardedCompletionsReachNoBlock : Obligations.DiscardedCompletionsReachNoBlock := by
  refine ⟨fun r epoch s older x newer stale requester epochs first => ?_, fun r a s flight onLink fault => ⟨fun notOlder => ?_, ?_⟩⟩
  · rw [completionDiscarded_older ⟨x, by simp [stale], requester, epochs⟩]
    have erased : s.mau.stale.eraseP (isStaleOf r epoch) = older ++ newer := by
      rw [stale, List.eraseP_append_right _ (by simpa [isStaleOf] using first), List.eraseP_cons_of_pos (by simp [isStaleOf, requester, epochs])]
    simp only [State.mapMau, erased]
  · rw [completionDiscarded_current (fun ⟨x, mem, named⟩ => notOlder x mem named) flight onLink rfl, if_pos fault]
  · intro i row completes
    obtain ⟨deliver, arrival⟩ := exec_eq_onArrival row s
    rw [arrival, onArrival_of_fault flight onLink fault completes]

/-! ## The grant (R18) -/

theorem isWaiting_iff {x : Option Access} : isWaiting x = true ↔ ∃ a, x = some a ∧ a.phase = .waiting := by
  cases x <;> simp [isWaiting]

/-- Nothing waits. -/
theorem nextGrant_eq_none (idle : ∀ r a, s.access r = some a → a.phase ≠ .waiting) : nextGrant s.mau = none := by
  unfold nextGrant
  rw [List.find?_eq_none]
  intro r _ waiting
  obtain ⟨a, flight, phase⟩ := isWaiting_iff.1 waiting
  exact idle r a flight phase

/-- The requester `k` places after the last one granted. -/
theorem grantOrder_getElem (last : Requester) {k : Nat} (h : k < (grantOrder last).length) :
    (grantOrder last)[k].val = (last.val + 1 + k) % 15 := by
  simp [grantOrder]

/-- The first that waits after the last one granted. -/
theorem nextGrant_eq_some {j : Nat} {r : Requester} {a : Access} (place : j < 15) (next : r.val = (s.mau.lastGranted.val + 1 + j) % 15)
    (flight : s.access r = some a) (waiting : a.phase = .waiting)
    (before : ∀ (k : Nat) (q : Requester) (b : Access), k < j → q.val = (s.mau.lastGranted.val + 1 + k) % 15 → s.access q = some b →
      b.phase ≠ .waiting) : nextGrant s.mau = some r := by
  have length : (grantOrder s.mau.lastGranted).length = 15 := by simp [grantOrder]
  unfold nextGrant
  rw [List.find?_eq_some_iff_getElem]
  refine ⟨isWaiting_iff.2 ⟨a, flight, waiting⟩, j, by omega, ?_, fun k hk => ?_⟩
  · exact Fin.ext ((grantOrder_getElem _ _).trans next.symm)
  · have place : k < (grantOrder s.mau.lastGranted).length := by omega
    rw [Bool.not_eq_true', Bool.eq_false_iff]
    intro waits
    obtain ⟨b, here, phase⟩ := isWaiting_iff.1 waits
    exact before k (grantOrder s.mau.lastGranted)[k] b hk (grantOrder_getElem _ place) here phase

/-- Settles O19: the grant is the first that waits in the rotating order. -/
theorem grantInRotatingOrder : Obligations.GrantInRotatingOrder := by
  intro s
  refine ⟨fun fault => if_pos fault, fun idle => ?_, fun notFault j r a place next flight waiting before => ?_⟩
  · show execMemoryAccessGrant s = .next s
    unfold execMemoryAccessGrant
    rw [nextGrant_eq_none idle, ite_self]
  · show execMemoryAccessGrant s = _
    unfold execMemoryAccessGrant grantTo
    rw [if_neg notFault, nextGrant_eq_some place next flight waiting before]
    dsimp only
    rw [flight]
    rfl

end

end Sys2Proof.Machine
end

section
/-!
PROOFS. The ring commands (O28 to O31): what the ring manager answers on each branch of its checks (R25 to R29), and the four
statements.
-/

namespace Sys2Proof.Machine

/-! ## Operands -/

/-- A slot count fits its 16-bit field. -/
theorem validGeometry_of_good {lo hi : Nat} {base : Addr} {slots : BitVec 16} (good : GoodGeometry lo hi base slots.toNat) :
    validGeometry lo hi base slots.toNat = true := (validGeometry_iff lo hi base slots.isLt).2 good

theorem validGeometry_of_not_good {lo hi : Nat} {base : Addr} {slots : BitVec 16} (bad : ¬ GoodGeometry lo hi base slots.toNat) :
    validGeometry lo hi base slots.toNat = false := by
  rw [← Bool.not_eq_true]
  exact fun valid => bad ((validGeometry_iff lo hi base slots.isLt).1 valid)

/-- An owed shadow write stays owed. -/
theorem State.setShadowOwed_of_owed {s : State} (owed : s.rings.shadowOwed = true) : s.setShadowOwed true = s := by
  unfold State.setShadowOwed State.mapRings
  rw [← owed]

/-- A requester is busy while it has an access in flight. -/
theorem State.busy_of_access {s : State} {r : Requester} (flight : s.access r ≠ none) : s.busy r = true :=
  Option.isSome_iff_ne_none.2 flight

theorem State.not_busy_of_access {s : State} {r : Requester} (free : s.access r = none) : s.busy r = false := by
  rw [State.busy_def, free]; rfl

section
variable {index : BitVec 16} {s : State}

/-! ## OPEN_SAMPLE_RING (R25) -/

section
variable {base : Addr} {slots : BitVec 16} {n : Fin 8}

theorem openSampleRing_outOfRange (h : 8 ≤ index.toNat) : openSampleRing index base slots s = refuse .badArgument s := by
  rw [openSampleRing, fieldBelow_eq_none.2 h]

theorem openSampleRing_opened (name : index.toNat = n.val) (opened : s.rings.sample[n].state = .opened) :
    openSampleRing index base slots s = refuse .wrongState s := by
  rw [openSampleRing, fieldBelow_eq_some.2 name]
  exact if_pos opened

theorem openSampleRing_badGeometry (name : index.toNat = n.val) (notOpened : s.rings.sample[n].state ≠ .opened)
    (bad : ¬ GoodGeometry 16 4096 base slots.toNat) : openSampleRing index base slots s = refuse .badArgument s := by
  rw [openSampleRing, fieldBelow_eq_some.2 name]
  dsimp only
  rw [if_neg notOpened, if_pos (validGeometry_of_not_good bad)]

theorem openSampleRing_goodGeometry (name : index.toNat = n.val) (notOpened : s.rings.sample[n].state ≠ .opened)
    (good : GoodGeometry 16 4096 base slots.toNat) :
    openSampleRing index base slots s =
      if s.rings.sample[n].state = .faulted ∧ s.busy (sampleRequester n) = true then .waits
      else finishOpenSampleRing n base slots.toNat s := by
  rw [openSampleRing, fieldBelow_eq_some.2 name]
  dsimp only
  rw [if_neg notOpened, if_neg (by rw [validGeometry_of_good good]; decide)]

end

/-! ## CLOSE_SAMPLE_RING (R26) -/

section
variable {n : Fin 8}

theorem closeSampleRing_outOfRange (h : 8 ≤ index.toNat) : closeSampleRing index s = refuse .badArgument s := by
  rw [closeSampleRing, fieldBelow_eq_none.2 h]

theorem closeSampleRing_closed (name : index.toNat = n.val) (closed : s.rings.sample[n].state = .closed) :
    closeSampleRing index s = refuse .wrongState s := by
  rw [closeSampleRing, fieldBelow_eq_some.2 name]
  exact if_pos closed

theorem closeSampleRing_used (name : index.toNat = n.val) (notClosed : s.rings.sample[n].state ≠ .closed)
    (used : sampleRingUsed n s = true) : closeSampleRing index s = refuse .inUse s := by
  rw [closeSampleRing, fieldBelow_eq_some.2 name]
  dsimp only
  rw [if_neg notClosed, if_pos used]

theorem closeSampleRing_unused (name : index.toNat = n.val) (notClosed : s.rings.sample[n].state ≠ .closed)
    (unused : ¬ sampleRingUsed n s = true) :
    closeSampleRing index s = if s.busy (sampleRequester n) then .waits else finishCloseSampleRing n s := by
  rw [closeSampleRing, fieldBelow_eq_some.2 name]
  dsimp only
  rw [if_neg notClosed, if_neg unused]

end

/-! ## OPEN_EVENT_RING (R28) -/

section
variable {base : Addr} {slots : BitVec 16} {notify floor : Byte} {n : Fin 4} {l f : Level}

theorem openEventRing_outOfRange (h : 4 ≤ index.toNat) : openEventRing index base slots notify floor s = refuse .badArgument s := by
  rw [openEventRing, fieldBelow_eq_none.2 h]

theorem openEventRing_opened (name : index.toNat = n.val) (opened : s.rings.event[n].state = .opened) :
    openEventRing index base slots notify floor s = refuse .wrongState s := by
  rw [openEventRing, fieldBelow_eq_some.2 name]
  exact if_pos opened

theorem openEventRing_badParams (name : index.toNat = n.val) (notOpened : s.rings.event[n].state ≠ .opened)
    (bad : ¬ (GoodGeometry 8 1024 base slots.toNat ∧ notify.toNat < 8 ∧ floor.toNat < 8)) :
    openEventRing index base slots notify floor s = refuse .badArgument s := by
  rw [openEventRing, fieldBelow_eq_some.2 name]
  dsimp only
  rw [if_neg notOpened]
  split
  · next nl fl hn hf =>
    have inRange : notify.toNat < 8 ∧ floor.toNat < 8 := by
      rw [fieldBelow_eq_some.1 hn, fieldBelow_eq_some.1 hf]; exact ⟨nl.isLt, fl.isLt⟩
    rw [if_pos (validGeometry_of_not_good fun good => bad ⟨good, inRange⟩)]
  · rfl

theorem openEventRing_goodParams (name : index.toNat = n.val) (notOpened : s.rings.event[n].state ≠ .opened)
    (good : GoodGeometry 8 1024 base slots.toNat) (hn : notify.toNat = l.val) (hf : floor.toNat = f.val) :
    openEventRing index base slots notify floor s =
      if s.rings.event[n].state = .faulted ∧ s.busy (eventRequester n) = true then .waits
      else finishOpenEventRing n base slots.toNat l f s := by
  rw [openEventRing, fieldBelow_eq_some.2 name]
  dsimp only
  rw [if_neg notOpened, fieldBelow_eq_some.2 hn, fieldBelow_eq_some.2 hf]
  dsimp only
  rw [if_neg (by rw [validGeometry_of_good good]; decide)]

end

/-! ## CLOSE_EVENT_RING (R29) -/

section
variable {n : Fin 4}

theorem closeEventRing_outOfRange (h : 4 ≤ index.toNat) : closeEventRing index s = refuse .badArgument s := by
  rw [closeEventRing, fieldBelow_eq_none.2 h]

theorem closeEventRing_closed (name : index.toNat = n.val) (closed : s.rings.event[n].state = .closed) :
    closeEventRing index s = refuse .wrongState s := by
  rw [closeEventRing, fieldBelow_eq_some.2 name]
  exact if_pos closed

theorem closeEventRing_used (name : index.toNat = n.val) (notClosed : s.rings.event[n].state ≠ .closed)
    (used : eventRingUsed n s = true) : closeEventRing index s = refuse .inUse s := by
  rw [closeEventRing, fieldBelow_eq_some.2 name]
  dsimp only
  rw [if_neg notClosed, if_pos used]

theorem closeEventRing_unused (name : index.toNat = n.val) (notClosed : s.rings.event[n].state ≠ .closed)
    (unused : ¬ eventRingUsed n s = true) :
    closeEventRing index s = if s.busy (eventRequester n) then .waits else finishCloseEventRing n s := by
  rw [closeEventRing, fieldBelow_eq_some.2 name]
  dsimp only
  rw [if_neg notClosed, if_neg unused]

end

end

/-- The acceptance of OPEN_EVENT_RING checks the ring's writer after the opening (R28, R142). -/
theorem finishOpenEventRing_eq (n : Fin 4) (base : Addr) (slots : Nat) (notify floor : Level) (s : State) :
    finishOpenEventRing n base slots notify floor s =
      .done .ok {} (checkWriter n
        (if s.rings.event[n].state = .closed then
          (s.setEventRing n (EventRing.openedWith base slots notify)).setDelivery n (Delivery.openedWith floor)
        else s.setEventRing n (EventRing.openedWith base slots notify))) := rfl

/-- The users of a sample ring are those of R75. -/
theorem taken_sampleRingUsed_iff (cmd : CommandRecord) (n : Fin 8) (s : State) :
    sampleRingUsed n (taken cmd s) = true ↔ ∃ i : Fin 64, s.streams[i].state ≠ .unbound ∧ s.streams[i].sampleRing = n := by
  simp only [sampleRingUsed_iff, taken_streams, Stream.isBound_iff]

/-- A watch table entry that targets an event ring is in use. -/
theorem watchTargets_iff {n : Fin 4} {v : Option Watch} : watchTargets n v = true ↔ ∃ w, v = some w ∧ w.target = n := by
  cases v <;> simp [watchTargets]

/-- The users of an event ring are those of R29. -/
theorem taken_eventRingUsed_iff (cmd : CommandRecord) (n : Fin 4) (s : State) :
    eventRingUsed n (taken cmd s) = true ↔
      (∃ (id : Fin 128) (w : Watch), s.watches[id] = some w ∧ w.target = n) ∨
        ∃ i : Fin 64, s.streams[i].state ≠ .unbound ∧ s.streams[i].eventRing = n := by
  simp only [eventRingUsed_iff, taken_streams, taken_watches, Stream.isBound_iff, watchTargets_iff]

end Sys2Proof.Machine

namespace Sys2Proof.Laws

open Sys2Proof.Machine

/-- Settles O28: each branch of the checks is answered as R25 says. -/
theorem openSampleRing : Obligations.OpenSampleRing := by
  refine fun h base slots s arrives => ⟨fun out => ?_, fun n name => ⟨fun opened => ?_, fun notOpened bad => ?_,
    fun faulted good flight => ?_, fun notOpened good free => ?_⟩⟩
  · exact refuses_of_refuse arrives rfl (openSampleRing_outOfRange out)
  · exact refuses_of_refuse arrives rfl (openSampleRing_opened name opened)
  · exact refuses_of_refuse arrives rfl (openSampleRing_badGeometry name notOpened bad)
  · refine waits_of_waits arrives rfl ((openSampleRing_goodGeometry name (by rw [taken_sample, faulted]; decide) good).trans ?_)
    exact if_pos ⟨faulted, State.busy_of_access (by rw [taken_access_sample]; exact flight)⟩
  · refine answers_of_done arrives rfl ((openSampleRing_goodGeometry (s := taken _ s) name notOpened good).trans ?_)
    rw [if_neg, finishOpenSampleRing, State.setShadowOwed_of_owed (by rfl), SampleRing.openedWith]
    rintro ⟨faulted, busy⟩
    rw [taken_sample] at faulted
    rcases free with closed | free
    · rw [closed] at faulted; cases faulted
    · rw [State.not_busy_of_access (by rw [taken_access_sample]; exact free)] at busy; cases busy

/-- Settles O29: each branch of the checks is answered as R26 says. -/
theorem closeSampleRing : Obligations.CloseSampleRing := by
  refine fun h s arrives => ⟨fun out => ?_, fun n name => ⟨fun closed => ?_, fun notClosed used => ?_,
    fun notClosed unused flight => ?_, fun notClosed unused free => ?_⟩⟩
  · exact refuses_of_refuse arrives rfl (closeSampleRing_outOfRange out)
  · exact refuses_of_refuse arrives rfl (closeSampleRing_closed name closed)
  · exact refuses_of_refuse arrives rfl (closeSampleRing_used name notClosed ((taken_sampleRingUsed_iff ..).2 used))
  · refine waits_of_waits arrives rfl ((closeSampleRing_unused (s := taken _ s) name notClosed (mt (taken_sampleRingUsed_iff ..).1 unused)).trans ?_)
    rw [State.busy_of_access (by rw [taken_access_sample]; exact flight)]
    rfl
  · refine answers_of_done arrives rfl ((closeSampleRing_unused (s := taken _ s) name notClosed (mt (taken_sampleRingUsed_iff ..).1 unused)).trans ?_)
    rw [State.not_busy_of_access (by rw [taken_access_sample]; exact free), packed_number, packed_number]
    rfl

/-- Settles O30: each branch of the checks is answered as R28 says, and an accepted opening ends with the writer's check. -/
theorem openEventRing : Obligations.OpenEventRing := by
  refine fun h base slots notify floor s arrives => ⟨fun out => ?_, fun n name => ⟨fun opened => ?_, fun notOpened bad => ?_,
    fun faulted good flight => ?_, fun l f hl hf good => ⟨fun closed => ?_, fun faulted free => ?_⟩⟩⟩
  · exact refuses_of_refuse arrives rfl (openEventRing_outOfRange out)
  · exact refuses_of_refuse arrives rfl (openEventRing_opened name opened)
  · exact refuses_of_refuse arrives rfl (openEventRing_badParams name notOpened bad)
  · obtain ⟨good, hn, hf⟩ := good
    refine waits_of_waits arrives rfl
      ((openEventRing_goodParams (l := ⟨_, hn⟩) (f := ⟨_, hf⟩) name (by rw [taken_event, faulted]; decide) good rfl rfl).trans ?_)
    exact if_pos ⟨faulted, State.busy_of_access (by rw [taken_access_event]; exact flight)⟩
  · refine ⟨_, answers_of_done arrives rfl ((openEventRing_goodParams name ?_ good hl hf).trans ?_), checkWriter_checked n _⟩
    · rw [taken_event, closed]; decide
    · rw [if_neg (by rw [taken_event, closed]; rintro ⟨no, -⟩; cases no), finishOpenEventRing_eq, if_pos (by exact closed)]
      rfl
  · refine ⟨_, answers_of_done arrives rfl ((openEventRing_goodParams name ?_ good hl hf).trans ?_), checkWriter_checked n _⟩
    · rw [taken_event, faulted]; decide
    · have notBusy := State.not_busy_of_access (s := taken (recordOf h (.openEventRing base slots notify floor)) s)
        (r := eventRequester n) (by rw [taken_access_event]; exact free)
      rw [if_neg (by rw [notBusy]; rintro ⟨-, no⟩; cases no), finishOpenEventRing_eq,
        if_neg (by rw [taken_event, faulted]; decide)]
      rfl

/-- Settles O31: each branch of the checks is answered as R29 says. -/
theorem closeEventRing : Obligations.CloseEventRing := by
  refine fun h s arrives => ⟨fun out => ?_, fun n name => ⟨fun closed => ?_, fun notClosed used => ?_,
    fun notClosed unused flight => ?_, fun notClosed unused free => ?_⟩⟩
  · exact refuses_of_refuse arrives rfl (closeEventRing_outOfRange out)
  · exact refuses_of_refuse arrives rfl (closeEventRing_closed name closed)
  · exact refuses_of_refuse arrives rfl (closeEventRing_used name notClosed ((taken_eventRingUsed_iff ..).2 used))
  · refine waits_of_waits arrives rfl ((closeEventRing_unused (s := taken _ s) name notClosed (mt (taken_eventRingUsed_iff ..).1 unused)).trans ?_)
    rw [State.busy_of_access (by rw [taken_access_event]; exact flight)]
    rfl
  · refine answers_of_done arrives rfl ((closeEventRing_unused (s := taken _ s) name notClosed (mt (taken_eventRingUsed_iff ..).1 unused)).trans ?_)
    rw [State.not_busy_of_access (by rw [taken_access_event]; exact free), packed_number, packed_number]
    rfl

end Sys2Proof.Laws
end

section
/-!
PROOFS. The register writes of the host (O9, O12, O13, O15, O16) and the step (O1): the CONTROL codes in each engine state, the setup
address, ignored writes, and the posts sorted by R7 to R9.
-/

namespace Sys2Proof.Machine

/-- Settles O1: the step is its definition's match on the queue. -/
theorem stepRunsTheFrontCommand : Obligations.StepRunsTheFrontCommand := by
  refine ⟨fun c q s queue => ?_, fun s empty => ?_⟩
  · unfold step; rw [queue]
  · unfold step; rw [empty]

/-! ## Entries into RUN and the end of STOPPING -/

/-- The entry into RUN is R184's. -/
theorem enterRun_enters (s : State) : EntersRun s (enterRun s) := by
  rw [enterRun_eq]
  exact ⟨_, _, _, _, _, _, rfl, startCommandFetch_checked _, startSampleFetches_checked _, checkWriter_checked 0 _,
    checkWriter_checked 1 _, checkWriter_checked 2 _, checkWriter_checked 3 _⟩

/-- The check of the end condition of STOPPING is R187's. -/
theorem checkStoppingEnd_checked (s : State) : StoppingEndChecked s (checkStoppingEnd s) := by
  unfold checkStoppingEnd
  constructor
  · intro notEnded
    rw [if_neg (mt (And.imp_right (drained_iff_quiet s).1) notEnded)]
  · intro stopping quiet notHeld
    rw [if_pos ⟨stopping, (drained_iff_quiet s).2 quiet⟩, notHeld]
    rfl
  · intro stopping quiet held
    rw [if_pos ⟨stopping, (drained_iff_quiet s).2 quiet⟩, held]
    exact enterRun_enters _

section
variable {s : State}

/-! ## Writes of the window -/

theorem busWrite_released (released : s.control.rstAsserted = false) (effect : State → State) : busWrite effect s = effect s := by
  rw [busWrite, released]; rfl

theorem busWrite_asserted (asserted : s.control.rstAsserted = true) (effect : State → State) : busWrite effect s = s := by
  rw [busWrite, asserted]; rfl

/-! ## START and STOP (R175) -/

theorem startCode_idle (engine : s.control.engine = .idle) : startCode s = startLoad s := by rw [startCode, engine]

theorem startCode_stopping (engine : s.control.engine = .stopping) :
    startCode s = s.mapControl fun c => { c with heldStart := true } := by
  rw [startCode, engine]

theorem startCode_stopped (engine : s.control.engine = .stopped) : startCode s = enterRun s := by rw [startCode, engine]

theorem startCode_other (engine : s.control.engine = .loading ∨ s.control.engine = .run ∨ s.control.engine = .fault) :
    startCode s = s := by
  unfold startCode; obtain engine | engine | engine := engine <;> rw [engine]

theorem stopCode_loading (engine : s.control.engine = .loading) : stopCode s = s.mapControl fun c => { c with heldStop := true } := by
  rw [stopCode, engine]

theorem stopCode_run (engine : s.control.engine = .run) : stopCode s = checkStoppingEnd (s.setEngine .stopping) := by
  rw [stopCode, engine]

theorem stopCode_other (notLoading : s.control.engine ≠ .loading) (notRun : s.control.engine ≠ .run) : stopCode s = s := by
  unfold stopCode; split <;> trivial

end

/-- Settles O9: START and STOP act by the engine state. -/
theorem startAndStopCodes : Obligations.StartAndStopCodes := by
  intro s released
  have start : exec .start s = .next (startCode s) := congrArg _ (busWrite_released released startCode)
  have stop : exec .stop s = .next (stopCode s) := congrArg _ (busWrite_released released stopCode)
  rw [start, stop]
  refine ⟨fun idle => ?_, fun stopping => ?_, fun stopped => ?_, fun other => ?_, fun loading => ?_, fun run => ?_,
    fun notLoading notRun => ?_⟩
  · rw [startCode_idle idle]; rfl
  · rw [startCode_stopping stopping]; rfl
  · rw [startCode_stopped stopped]; exact ⟨_, rfl, enterRun_enters s⟩
  · rw [startCode_other other]
  · rw [stopCode_loading loading]; rfl
  · rw [stopCode_run run]; exact ⟨_, rfl, checkStoppingEnd_checked _⟩
  · rw [stopCode_other notLoading notRun]

/-! ## Posts (R7 to R9) -/

/-- A valid producer post is R7's. -/
theorem Descriptor.validProducerPost_iff {d : Descriptor} {i : Nat} :
    d.validProducerPost i = true ↔ i < d.slots ∧ d.count ≤ ringDiff d.slots i d.consumer := by
  simp [validProducerPost]

/-- A valid consumer post is R8's. -/
theorem Descriptor.validConsumerPost_iff {d : Descriptor} {i : Nat} :
    d.validConsumerPost i = true ↔ i < d.slots ∧ ringDiff d.slots i d.consumer ≤ ringDiff d.slots d.producer d.consumer := by
  rw [validConsumerPost, Bool.and_eq_true, decide_eq_true_eq, decide_eq_true_eq]
  rfl

/-- A ring that is emptied loses its attention flag (R11). -/
theorem attention_consumed (flag : Bool) (i producer : Nat) : (flag && i != producer) = if i = producer then false else flag := by
  by_cases h : i = producer <;> simp [h]

theorem SampleRing.faultWith_of_opened {r : SampleRing} (opened : r.state = .opened) (cause : RingCause) :
    r.faultWith cause = { r with state := .faulted, cause := cause } := if_pos opened

theorem SampleRing.faultWith_of_not_opened {r : SampleRing} (notOpened : r.state ≠ .opened) (cause : RingCause) :
    r.faultWith cause = r := if_neg notOpened

theorem EventRing.faultWith_of_opened {r : EventRing} (opened : r.state = .opened) (cause : RingCause) :
    r.faultWith cause = { r with state := .faulted, cause := cause } := if_pos opened

theorem EventRing.faultWith_of_not_opened {r : EventRing} (notOpened : r.state ≠ .opened) (cause : RingCause) :
    r.faultWith cause = r := if_neg notOpened

section
variable {s : State}

/-- A post is discarded in IDLE and LOADING, and where its selector names no ring (R7). -/
theorem writePost_discarded {word : Word}
    (discarded : s.control.engine = .idle ∨ s.control.engine = .loading ∨ 14 ≤ postSelector word) : writePost word s = s := by
  unfold writePost
  split
  · rfl
  · next running =>
    rw [ringOfSelector_eq_none (discarded.resolve_left (fun e => running (.inl e)) |>.resolve_left fun e => running (.inr e))]

/-- A post elsewhere is sorted by the ring it names. -/
theorem writePost_named {word : Word} (notIdle : s.control.engine ≠ .idle) (notLoading : s.control.engine ≠ .loading)
    {ring : RingName} (named : ringOfSelector (postSelector word) = some ring) :
    writePost word s =
      match ring with
      | .command => postCommand (postIndex word) s
      | .reply => postReply (postIndex word) s
      | .sample n => postSample n (postIndex word) s
      | .event n => postEvent n (postIndex word) s := by
  rw [writePost, if_neg (not_or.2 ⟨notIdle, notLoading⟩)]
  cases ring <;> simp only [named]

variable {i : Nat}

theorem postCommand_closed (closed : s.rings.command.state = .closed) : postCommand i s = s := by
  unfold postCommand; exact if_pos closed

theorem postCommand_valid (notClosed : s.rings.command.state ≠ .closed) (valid : s.rings.command.validProducerPost i = true) :
    postCommand i s = startCommandFetch (s.setCommandRing { s.rings.command with producer := i }) := by
  unfold postCommand; exact (if_neg notClosed).trans (if_pos valid)

theorem postCommand_invalid (notClosed : s.rings.command.state ≠ .closed) (invalid : ¬ s.rings.command.validProducerPost i = true) :
    postCommand i s = faultReport .commandPostInvalid 0 s := by
  unfold postCommand; exact (if_neg notClosed).trans (if_neg invalid)

theorem postReply_closed (closed : s.rings.reply.state = .closed) : postReply i s = s := by
  unfold postReply; exact if_pos closed

theorem postReply_valid (notClosed : s.rings.reply.state ≠ .closed) (valid : s.rings.reply.validConsumerPost i = true) :
    postReply i s = startCommandFetch (s.setReplyRing (s.rings.reply.consumed i)) := by
  unfold postReply; exact (if_neg notClosed).trans (if_pos valid)

theorem postReply_invalid (notClosed : s.rings.reply.state ≠ .closed) (invalid : ¬ s.rings.reply.validConsumerPost i = true) :
    postReply i s = faultReport .replyPostInvalid 0 s := by
  unfold postReply; exact (if_neg notClosed).trans (if_neg invalid)

theorem postSample_closed {n : Fin 8} (closed : s.rings.sample[n].state = .closed) : postSample n i s = s := by
  unfold postSample; exact if_pos closed

theorem postSample_valid {n : Fin 8} (notClosed : s.rings.sample[n].state ≠ .closed)
    (valid : s.rings.sample[n].validProducerPost i = true) :
    postSample n i s = startSampleFetch n (s.setSampleRing n { s.rings.sample[n] with producer := i }) := by
  unfold postSample; exact (if_neg notClosed).trans (if_pos valid)

theorem postSample_invalid {n : Fin 8} (notClosed : s.rings.sample[n].state ≠ .closed)
    (invalid : ¬ s.rings.sample[n].validProducerPost i = true) :
    postSample n i s = s.setSampleRing n (s.rings.sample[n].faultWith .badPost) := by
  unfold postSample; exact (if_neg notClosed).trans (if_neg invalid)

theorem postEvent_closed {n : Fin 4} (closed : s.rings.event[n].state = .closed) : postEvent n i s = s := by
  unfold postEvent; exact if_pos closed

theorem postEvent_valid {n : Fin 4} (notClosed : s.rings.event[n].state ≠ .closed)
    (valid : s.rings.event[n].validConsumerPost i = true) :
    postEvent n i s = checkWriter n (s.setEventRing n (s.rings.event[n].consumed i)) := by
  unfold postEvent; exact (if_neg notClosed).trans (if_pos valid)

theorem postEvent_invalid {n : Fin 4} (notClosed : s.rings.event[n].state ≠ .closed)
    (invalid : ¬ s.rings.event[n].validConsumerPost i = true) :
    postEvent n i s = s.setEventRing n (s.rings.event[n].faultWith .badPost) := by
  unfold postEvent; exact (if_neg notClosed).trans (if_neg invalid)

end

/-- Settles O15: a producer post by the ring it names, that ring's state and the check of R7. -/
theorem producerPostSorted : Obligations.ProducerPostSorted := by
  intro word s released
  have row : exec (.producerPost word) s = .next (writePost word s) := congrArg _ (busWrite_released released _)
  rw [row, ← postIndex_eq, ← postSelector_eq]
  refine ⟨fun discarded => ?_, fun notIdle notLoading selector => ?command, fun notIdle notLoading n selector => ?sample⟩
  · rw [writePost_discarded discarded]
  case command =>
    rw [writePost_named (ring := .command) notIdle notLoading (by rw [selector]; rfl)]
    dsimp only
    rw [← Descriptor.validProducerPost_iff]
    refine ⟨fun closed => ?_, fun notClosed valid => ?_, fun notClosed invalid => ?_⟩
    · rw [postCommand_closed closed]
    · rw [postCommand_valid notClosed valid]; exact ⟨_, rfl, startCommandFetch_checked _⟩
    · rw [postCommand_invalid notClosed invalid]; exact ⟨_, rfl, faultReport_reported _ _ _⟩
  case sample =>
    rw [writePost_named (ring := .sample n) notIdle notLoading (by rw [selector, ringOfSelector_sample])]
    dsimp only
    rw [← Descriptor.validProducerPost_iff]
    refine ⟨fun closed => ?_, fun notClosed valid => ?_, fun opened invalid => ?_, fun faulted invalid => ?_⟩
    · rw [postSample_closed closed]
    · rw [postSample_valid notClosed valid]; exact ⟨_, rfl, startSampleFetch_checked _ _⟩
    · rw [postSample_invalid (by rw [opened]; decide) invalid, SampleRing.faultWith_of_opened opened]
    · rw [postSample_invalid (by rw [faulted]; decide) invalid, SampleRing.faultWith_of_not_opened (by rw [faulted]; decide),
        State.setSampleRing_self]

/-- Settles O16: a consumer post by the ring it names, that ring's state and the check of R8. -/
theorem consumerPostSorted : Obligations.ConsumerPostSorted := by
  intro word s released
  have row : exec (.consumerPost word) s = .next (writePost word s) := congrArg _ (busWrite_released released _)
  rw [row, ← postIndex_eq, ← postSelector_eq]
  refine ⟨fun discarded => ?_, fun notIdle notLoading selector => ?reply, fun notIdle notLoading n selector => ?event⟩
  · rw [writePost_discarded (discarded.imp_right .inl)]
  case reply =>
    rw [writePost_named (ring := .reply) notIdle notLoading (by rw [selector]; rfl)]
    dsimp only
    rw [← Descriptor.validConsumerPost_iff, ← attention_consumed]
    refine ⟨fun closed => ?_, fun notClosed valid => ?_, fun notClosed invalid => ?_⟩
    · rw [postReply_closed closed]
    · rw [postReply_valid notClosed valid]; exact ⟨_, rfl, startCommandFetch_checked _⟩
    · rw [postReply_invalid notClosed invalid]; exact ⟨_, rfl, faultReport_reported _ _ _⟩
  case event =>
    rw [writePost_named (ring := .event n) notIdle notLoading (by rw [selector, ringOfSelector_event])]
    dsimp only
    rw [← Descriptor.validConsumerPost_iff, ← attention_consumed]
    refine ⟨fun closed => ?_, fun notClosed valid => ?_, fun opened invalid => ?_, fun faulted invalid => ?_⟩
    · rw [postEvent_closed closed]
    · rw [postEvent_valid notClosed valid]; exact ⟨_, rfl, checkWriter_checked _ _⟩
    · rw [postEvent_invalid (by rw [opened]; decide) invalid, EventRing.faultWith_of_opened opened]
    · rw [postEvent_invalid (by rw [faulted]; decide) invalid, EventRing.faultWith_of_not_opened (by rw [faulted]; decide),
        State.setEventRing_self]

/-! ## Ignored writes (R173) -/

/-- A write that the table calls ignored changes nothing. -/
theorem writeRegister_of_ignored {offset : Nat} {value : Word} (ignored : writeIsIgnored offset 0xF value = true) (s : State) :
    writeRegister offset value s = s := by
  have noRegister : offset ∉ writableOffsets ∨ offset = 0x04 ∧ value ≠ 1 ∧ value ≠ 2 ∧ value ≠ 3 := by
    simpa [writeIsIgnored, and_assoc] using ignored
  obtain other | ⟨control, notStart, notStop, notReset⟩ := noRegister
  · simp only [writableOffsets, List.mem_cons, List.not_mem_nil, or_false, not_or] at other
    obtain ⟨notControl, notLo, notHi, notPost⟩ := other
    rw [writeRegister, if_neg notControl, if_neg notLo, if_neg notHi, if_neg notPost]
  · rw [writeRegister, if_pos control, if_neg notStart, if_neg notStop, if_neg notReset]

/-- Settles O13: the write acts by its offset and value, so that an ignored one finds no register. -/
theorem ignoredWritesChangeNothing : Obligations.IgnoredWritesChangeNothing := by
  refine ⟨fun offset lanes value s wf => ?_, fun s asserted value => ?_⟩
  · show Host.Outcome.next (if lanes = 0xF then busWrite (writeRegister offset value) s else s) = .next s
    split
    · next full =>
      subst full
      rw [show busWrite (writeRegister offset value) s = s from ?_]
      unfold busWrite
      split
      · rfl
      · exact writeRegister_of_ignored wf s
    · rfl
  · have ignored (effect : State → State) : Host.Outcome.next (ρ := Refusal) (φ := Fault) (busWrite effect s) = .next s :=
      congrArg _ (busWrite_asserted asserted effect)
    exact ⟨ignored _, ignored _, ignored _, ignored _, ignored _, ignored _, ignored _⟩

end Sys2Proof.Machine
end

section
/-!
PROOFS. The register window (O8, O12, O14) and the count of a ring (O7): the bits of a word that is made of fields, what each register
shows, and what a read of TIME_LO captures.
-/

namespace Sys2Proof.Machine

/-! ## The count of a ring (R3) -/

/-- The difference of two indices is theirs modulo the slot count, in exact integers. -/
theorem ringDiff_eq_emod {slots a b : Nat} (ha : a < slots) (hb : b < slots) :
    (ringDiff slots a b : Int) = ((a : Int) - b) % slots := by
  rw [ringDiff, Nat.mod_eq_of_lt hb]
  by_cases h : b ≤ a
  · have : a + (slots - b) = (a - b) + slots := by omega
    rw [this, Nat.add_mod_right, Nat.mod_eq_of_lt (by omega), Int.emod_eq_of_lt (by omega) (by omega)]
    omega
  · rw [Nat.mod_eq_of_lt (by omega), ← Int.add_emod_right, Int.emod_eq_of_lt (by omega) (by omega)]
    omega

/-- Settles O7: the difference of two indices below the slot count is theirs where it does not wrap, and a slot count more where it
does. -/
theorem ringCountIsTheDifference : Obligations.RingCountIsTheDifference := by
  intro d producer consumer
  have count : (d.count : Int) = ((d.producer : Int) - d.consumer) % d.slots := ringDiff_eq_emod producer consumer
  have below : d.count < d.slots := Nat.mod_lt _ (by omega)
  refine ⟨count, ?_, by simp [Descriptor.hasFreeSlot], by omega⟩
  have same : d.count = 0 ↔ ((d.slots : Int) ∣ (d.producer : Int) - d.consumer) := by
    rw [Int.dvd_iff_emod_eq_zero, ← count]
    omega
  rw [same]
  constructor
  · intro divides
    have := Int.eq_zero_of_abs_lt_dvd divides (by rw [abs_lt]; omega)
    omega
  · intro equal
    rw [equal]
    simp

/-! ## Bits of words -/

theorem fieldAt_getLsbD (p n k : Nat) (inWord : k < 32) : (fieldAt p n).getLsbD k = (decide (p ≤ k) && n.testBit (k - p)) := by
  have shifted : k - p < 32 := by omega
  rw [fieldAt, BitVec.getLsbD_shiftLeft, numWord, BitVec.getLsbD_ofNat]
  simp only [inWord, shifted, decide_true, Bool.true_and, ← decide_not, not_lt]

theorem bitAt_getLsbD (p : Nat) (b : Bool) (k : Nat) (inWord : k < 32) : (bitAt p b).getLsbD k = (decide (k = p) && b) := by
  rw [bitAt, fieldAt_getLsbD _ _ _ inWord]
  have here : (decide (p ≤ k) && decide (k - p = 0)) = decide (k = p) := by
    rw [← Bool.decide_and]
    exact decide_eq_decide.2 (by omega)
  rw [Nat.testBit_bool_toNat, ← Bool.and_assoc, here]

/-- The bits of a list of flags. -/
theorem bitsFrom_getLsbD (l : List Bool) (p k : Nat) (inWord : k < 32) :
    (bitsFrom p l).getLsbD k = (decide (p ≤ k) && l.getD (k - p) false) := by
  induction l generalizing p with
  | nil => simp [bitsFrom]
  | cons b l ih =>
    rw [bitsFrom, BitVec.getLsbD_or, bitAt_getLsbD _ _ _ inWord, ih]
    obtain below | here | above := lt_trichotomy k p
    · simp [show ¬ p ≤ k by omega, show ¬ p + 1 ≤ k by omega, show k ≠ p by omega]
    · subst here; simp
    · obtain ⟨m, rfl⟩ := Nat.exists_eq_add_of_lt above
      simp [show p + m + 1 - p = m + 1 by omega, show p + m + 1 - (p + 1) = m by omega, show p + m + 1 ≠ p by omega,
        show p ≤ p + m + 1 by omega]

/-- The mask of the bytes that a read asks for. -/
theorem laneMask_getLsbD (lanes : BitVec 4) (k : Fin 32) : (laneMask lanes).getLsbD k = lanes.getLsbD (k / 8) := by
  revert lanes k; decide

section
variable {s : State}

theorem registerRead_asserted (asserted : s.control.rstAsserted = true) (offset : Nat) (lanes : BitVec 4) :
    registerRead s offset lanes = 0 := by
  rw [registerRead, if_pos asserted]

theorem registerRead_released (released : s.control.rstAsserted = false) (offset : Nat) :
    registerRead s offset 0xF = registerWord s offset := by
  rw [registerRead, released, show laneMask 0xF = BitVec.allOnes 32 by decide, BitVec.and_allOnes]
  rfl

/-- A read shows the bytes it asks for. -/
theorem registerRead_getLsbD (s : State) (offset : Nat) (lanes : BitVec 4) (k : Fin 32) :
    (registerRead s offset lanes).getLsbD k = (lanes.getLsbD (k / 8) && (registerRead s offset 0xF).getLsbD k) := by
  have full : laneMask 0xF = BitVec.allOnes 32 := by decide
  unfold registerRead
  split
  · simp
  · rw [full, BitVec.and_allOnes, BitVec.getLsbD_and, laneMask_getLsbD, Bool.and_comm]

/-! ## STATUS (R174) -/

theorem EngineState.code_lt (e : EngineState) : e.code < 2 ^ 3 := by cases e <;> decide

theorem CommandPhase.code_lt (p : CommandPhase) : p.code < 2 ^ 2 := by cases p <;> decide

/-- The bits of STATUS. -/
theorem statusWord_getLsbD (s : State) (k : Nat) (inWord : k < 32) :
    (statusWord s).getLsbD k =
      (s.control.engine.code.testBit k || decide (k = 3) && s.control.heldStart || decide (k = 4) && s.control.heldStop
        || decide (5 ≤ k) && s.cmd.phase.code.testBit (k - 5) || decide (k = 7) && s.rings.reply.attention
        || decide (8 ≤ k) && ((List.finRange 4).map fun n => s.rings.event[n].attention).getD (k - 8) false
        || decide (12 ≤ k) && ((List.finRange 8).map fun n => s.rings.sample[n].isFaulted).getD (k - 12) false
        || decide (20 ≤ k) && ((List.finRange 4).map fun n => s.rings.event[n].isFaulted).getD (k - 20) false
        || decide (k = 24) && attention s) := by
  simp only [statusWord, BitVec.getLsbD_or, fieldAt_getLsbD _ _ _ inWord, bitAt_getLsbD _ _ _ inWord, bitsFrom_getLsbD _ _ _ inWord,
    Nat.zero_le, decide_true, Bool.true_and, Nat.sub_zero]

/-- An engine state code has no bit above bit 2. -/
theorem EngineState.code_testBit (e : EngineState) {k : Nat} (above : 3 ≤ k) : e.code.testBit k = false :=
  Nat.testBit_lt_two_pow (lt_of_lt_of_le e.code_lt (Nat.pow_le_pow_right (by decide) above))

/-- A command engine state code has no bit above bit 1. -/
theorem CommandPhase.code_testBit (p : CommandPhase) {k : Nat} (above : 2 ≤ k) : p.code.testBit k = false :=
  Nat.testBit_lt_two_pow (lt_of_lt_of_le p.code_lt (Nat.pow_le_pow_right (by decide) above))

/-- A flag of a list of one flag for each ring. -/
theorem getD_finRange {m : Nat} (f : Fin m → Bool) (k : Nat) :
    ((List.finRange m).map f).getD k false = if h : k < m then f ⟨k, h⟩ else false := by
  by_cases h : k < m <;> simp [List.getD_eq_getElem?_getD, h]

theorem Descriptor.isFaulted_eq (d : Descriptor) : d.isFaulted = decide (d.state = .faulted) := by
  simp [isFaulted, beq_eq_decide]

/-! What each field of STATUS shows. -/

theorem statusWord_engine (s : State) : (statusWord s).extractLsb' 0 3 = BitVec.ofNat 3 s.control.engine.code := by
  apply BitVec.eq_of_getLsbD_eq
  intro i below
  rw [BitVec.getLsbD_extractLsb', Nat.zero_add, statusWord_getLsbD _ _ (by omega), BitVec.getLsbD_ofNat]
  simp [below, show i ≠ 3 by omega, show i ≠ 4 by omega, show i ≠ 7 by omega, show i ≠ 24 by omega, show ¬ 5 ≤ i by omega,
    show ¬ 8 ≤ i by omega, show ¬ 12 ≤ i by omega, show ¬ 20 ≤ i by omega]

theorem statusWord_phase (s : State) : (statusWord s).extractLsb' 5 2 = BitVec.ofNat 2 s.cmd.phase.code := by
  apply BitVec.eq_of_getLsbD_eq
  intro i below
  rw [BitVec.getLsbD_extractLsb', statusWord_getLsbD _ _ (by omega), BitVec.getLsbD_ofNat,
    EngineState.code_testBit _ (by omega)]
  simp [below, show 5 + i ≠ 3 by omega, show 5 + i ≠ 4 by omega, show 5 + i ≠ 7 by omega, show 5 + i ≠ 24 by omega,
    show ¬ 8 ≤ 5 + i by omega, show ¬ 12 ≤ 5 + i by omega, show ¬ 20 ≤ 5 + i by omega]

theorem statusWord_heldStart (s : State) : (statusWord s).getLsbD 3 = s.control.heldStart := by
  rw [statusWord_getLsbD _ _ (by decide), EngineState.code_testBit _ (by decide)]
  simp

theorem statusWord_heldStop (s : State) : (statusWord s).getLsbD 4 = s.control.heldStop := by
  rw [statusWord_getLsbD _ _ (by decide), EngineState.code_testBit _ (by decide)]
  simp

theorem statusWord_replyAttention (s : State) : (statusWord s).getLsbD 7 = s.rings.reply.attention := by
  rw [statusWord_getLsbD _ _ (by decide), EngineState.code_testBit _ (by decide), CommandPhase.code_testBit _ (by decide)]
  simp

theorem statusWord_eventAttention (s : State) (n : Fin 4) : (statusWord s).getLsbD (8 + n.val) = s.rings.event[n].attention := by
  rw [statusWord_getLsbD _ _ (by omega), EngineState.code_testBit _ (by omega), CommandPhase.code_testBit _ (by omega)]
  simp only [getD_finRange]
  simp [show 8 + n.val ≠ 3 by omega, show 8 + n.val ≠ 4 by omega, show 8 + n.val ≠ 7 by omega, show 8 + n.val ≠ 24 by omega,
    show ¬ 12 ≤ 8 + n.val by omega, show ¬ 20 ≤ 8 + n.val by omega]

theorem statusWord_sampleFaulted (s : State) (n : Fin 8) :
    (statusWord s).getLsbD (12 + n.val) = decide (s.rings.sample[n].state = .faulted) := by
  rw [statusWord_getLsbD _ _ (by omega), EngineState.code_testBit _ (by omega), CommandPhase.code_testBit _ (by omega)]
  simp only [getD_finRange]
  simp [show 12 + n.val ≠ 3 by omega, show 12 + n.val ≠ 4 by omega, show 12 + n.val ≠ 7 by omega, show 12 + n.val ≠ 24 by omega,
    show ¬ 12 + n.val - 8 < 4 by omega, show ¬ 20 ≤ 12 + n.val by omega, Descriptor.isFaulted_eq]

theorem statusWord_eventFaulted (s : State) (n : Fin 4) :
    (statusWord s).getLsbD (20 + n.val) = decide (s.rings.event[n].state = .faulted) := by
  rw [statusWord_getLsbD _ _ (by omega), EngineState.code_testBit _ (by omega), CommandPhase.code_testBit _ (by omega)]
  simp only [getD_finRange]
  simp [show 20 + n.val ≠ 3 by omega, show 20 + n.val ≠ 4 by omega, show 20 + n.val ≠ 7 by omega, show 20 + n.val ≠ 24 by omega,
    show ¬ 20 + n.val - 8 < 4 by omega, show ¬ 20 + n.val - 12 < 8 by omega, Descriptor.isFaulted_eq]

theorem statusWord_attention (s : State) : (statusWord s).getLsbD 24 = attention s := by
  rw [statusWord_getLsbD _ _ (by decide), EngineState.code_testBit _ (by decide), CommandPhase.code_testBit _ (by decide)]
  simp only [getD_finRange]
  simp

theorem statusWord_above (s : State) {k : Nat} (above : 25 ≤ k) : (statusWord s).getLsbD k = false := by
  by_cases inWord : k < 32
  · rw [statusWord_getLsbD _ _ inWord, EngineState.code_testBit _ (by omega), CommandPhase.code_testBit _ (by omega)]
    simp only [getD_finRange]
    simp [show k ≠ 3 by omega, show k ≠ 4 by omega, show k ≠ 7 by omega, show k ≠ 24 by omega, show ¬ k - 8 < 4 by omega,
      show ¬ k - 12 < 8 by omega, show ¬ k - 20 < 4 by omega]
  · exact BitVec.getLsbD_of_ge _ _ (by omega)

/-! ## The other registers -/

/-- FAULT shows the kind in its lower byte and the count of further faults above it. -/
theorem faultWord_getLsbD (kind count k : Nat) (inWord : k < 32) :
    (fieldAt 0 kind ||| fieldAt 8 count).getLsbD k = (kind.testBit k || decide (8 ≤ k) && count.testBit (k - 8)) := by
  rw [BitVec.getLsbD_or, fieldAt_getLsbD _ _ _ inWord, fieldAt_getLsbD _ _ _ inWord]
  simp

theorem FaultKind.code_lt (f : FaultKind) : f.code < 2 ^ 8 := by cases f <;> decide

theorem faultWord_kind (kind : FaultKind) (count : Nat) :
    (fieldAt 0 kind.code ||| fieldAt 8 count).extractLsb' 0 8 = BitVec.ofNat 8 kind.code := by
  apply BitVec.eq_of_getLsbD_eq
  intro i below
  rw [BitVec.getLsbD_extractLsb', Nat.zero_add, faultWord_getLsbD _ _ _ (by omega), BitVec.getLsbD_ofNat]
  simp [below, show ¬ 8 ≤ i by omega]

theorem faultWord_count (kind : FaultKind) (count : Nat) :
    (fieldAt 0 kind.code ||| fieldAt 8 count).extractLsb' 8 24 = BitVec.ofNat 24 count := by
  apply BitVec.eq_of_getLsbD_eq
  intro i below
  rw [BitVec.getLsbD_extractLsb', faultWord_getLsbD _ _ _ (by omega), BitVec.getLsbD_ofNat,
    Nat.testBit_lt_two_pow (lt_of_lt_of_le kind.code_lt (Nat.pow_le_pow_right (by decide) (by omega)))]
  simp [below]

/-- An offset of no register shows 0. -/
theorem registerWord_other {offset : Nat} (s : State)
    (other : offset ∉ [0x00, 0x04, 0x08, 0x0C, 0x10, 0x18, 0x1C, 0x20, 0x24, 0x28]) : registerWord s offset = 0 := by
  simp only [List.mem_cons, List.not_mem_nil, or_false, not_or] at other
  obtain ⟨h0, h1, h2, h3, h4, h5, h6, h7, h8, h9⟩ := other
  rw [registerWord, if_neg h0, if_neg h1, if_neg h2, if_neg h3, if_neg h4, if_neg h5, if_neg h6, if_neg h7, if_neg h8, if_neg h9]

end

/-! ## Pins -/

/-- What holds ATTN_N low (R195). -/
theorem attention_iff (s : State) : attention s = true ↔
    s.rings.reply.attention = true ∨ (∃ n : Fin 4, s.rings.event[n].attention = true) ∨
      (∃ n : Fin 8, s.rings.sample[n].state = .faulted) ∨ (∃ n : Fin 4, s.rings.event[n].state = .faulted) ∨
      s.control.engine = .fault := by
  simp [attention, Descriptor.isFaulted, or_assoc]

/-- Where only the pin record is extended by ATTN_N's change, ATTN_N is noted. -/
theorem noteAttention_noted {s t : State} (record : t.pinChanges = s.pinChanges) : AttentionNoted s (noteAttention s t) := by
  unfold AttentionNoted
  have same : attention (noteAttention s t) = attention t := rfl
  show t.pinChanges ++ pinStep .attn (!attention s) (!attention t) = _
  rw [record, same]
  unfold pinStep
  cases attention s <;> cases attention t <;> rfl

/-- Settles O8: the words of the registers are taken apart into their fields; STATUS bit by bit. -/
theorem statusShowsTheOwners : Obligations.StatusShowsTheOwners := by
  refine ⟨by decide, by decide, by decide, fun s => ⟨rfl, fun _ => rfl, fun _ => noteAttention_noted rfl,
    fun _ _ => noteAttention_noted rfl, fun _ _ => noteAttention_noted rfl, fun a l => ?line, attention_iff s,
    fun asserted offset lanes => registerRead_asserted asserted offset lanes, registerRead_getLsbD s, fun released => ?words⟩⟩
  case line =>
    show s.pinChanges ++ pinStep (.alm a) s.alarms[a].asserted l.asserted = _
    unfold pinStep
    simp only [eq_comm]
  case words =>
    simp only [registerRead_released released]
    have ident : registerWord s 0x00 = 0x00027324 := (show identWord = 0x00027324 by decide)
    exact ⟨ident, BitVec.extractLsb'_append_extractLsb', rfl, rfl, BitVec.shiftLeft_zero _,
      ⟨faultWord_kind _ _, fun _ => faultWord_count _ _⟩, BitVec.extractLsb'_append_extractLsb', fun offset => registerWord_other s,
      statusWord_engine s, statusWord_heldStart s, statusWord_heldStop s, statusWord_phase s, statusWord_replyAttention s,
      statusWord_eventAttention s, statusWord_sampleFaulted s, statusWord_eventFaulted s, statusWord_attention s,
      fun k => statusWord_above s⟩

/-! ## The setup address (R179) -/

section
variable {s : State}

theorem writeSetupLo_idle (value : Word) (idle : s.control.engine = .idle) :
    writeSetupLo value s =
      s.mapControl fun c => { c with setupAddr := (c.setupAddr.extractLsb' 32 32 ++ value : BitVec 64) } := if_pos idle

theorem writeSetupHi_idle (value : Word) (idle : s.control.engine = .idle) :
    writeSetupHi value s =
      s.mapControl fun c => { c with setupAddr := (value ++ c.setupAddr.extractLsb' 0 32 : BitVec 64) } := if_pos idle

theorem writeSetupLo_notIdle (value : Word) (notIdle : s.control.engine ≠ .idle) : writeSetupLo value s = s := if_neg notIdle

theorem writeSetupHi_notIdle (value : Word) (notIdle : s.control.engine ≠ .idle) : writeSetupHi value s = s := if_neg notIdle

end

/-- Settles O12: each write replaces its half of the setup address in IDLE. -/
theorem setupWritesInIdle : Obligations.SetupWritesInIdle := by
  intro value s released
  have lo : exec (.setupLo value) s = .next (writeSetupLo value s) := congrArg _ (busWrite_released released _)
  have hi : exec (.setupHi value) s = .next (writeSetupHi value s) := congrArg _ (busWrite_released released _)
  rw [lo, hi]
  refine ⟨fun idle => ⟨_, rfl, ?_⟩, fun idle => ⟨_, rfl, ?_⟩, fun notIdle => ?_⟩
  · rw [writeSetupLo_idle value idle, registerRead_released (by exact released), registerRead_released (by exact released),
      registerRead_released released]
    exact ⟨rfl, BitVec.extractLsb'_append_eq_right, BitVec.extractLsb'_append_eq_left⟩
  · rw [writeSetupHi_idle value idle, registerRead_released (by exact released), registerRead_released (by exact released),
      registerRead_released released]
    exact ⟨rfl, BitVec.extractLsb'_append_eq_left, BitVec.extractLsb'_append_eq_right⟩
  · rw [writeSetupLo_notIdle value notIdle, writeSetupHi_notIdle value notIdle]
    exact ⟨rfl, rfl⟩

/-! ## TIME_LO (R194) -/

/-- Settles O14: the word read is TIME_LO's in the bytes asked for, and the capture is the upper part of the time base. -/
theorem timeLoReadCaptures : Obligations.TimeLoReadCaptures := by
  refine fun lanes s => ⟨fun released some => ?_, fun asserted => ?_⟩
  · have row : readTimeLo lanes s =
        ({ s with readData := registerRead s 0x24 lanes } : State).mapControl
          fun c => { c with timeCapture := c.timeBase.extractLsb' 32 16 } := by
      unfold readTimeLo
      rw [if_neg (by rw [released]; exact not_or.2 ⟨by decide, some⟩)]
    refine ⟨_, congrArg Host.Outcome.next row, rfl, fun k => ?_, ?_⟩
    · show (registerRead s 0x24 lanes).getLsbD k = _
      rw [registerRead_getLsbD, registerRead_released released]
      congr 1
      show (s.control.timeBase.extractLsb' 0 32).getLsbD k = _
      rw [BitVec.getLsbD_extractLsb']
      simp
    · exact registerRead_released (by exact released) 0x28
  · have row : readTimeLo lanes s = { s with readData := registerRead s 0x24 lanes } := by
      unfold readTimeLo
      rw [if_pos (.inl asserted)]
    rw [registerRead_asserted asserted] at row
    exact congrArg _ row

end Sys2Proof.Machine
end

section
/-!
PROOFS. Silence (O18) and the tick (O17): what one expiry leaves, that the expiry of one stream does not make that of another due or not
due, and so that the expiries of a tick are those due at its start, one after another.
-/

namespace Sys2Proof.Machine

section
variable {i : Fin 64} {s u : State}

/-- R64's three conditions. -/
theorem expiryDue_iff : expiryDue i s = true ↔
    s.control.engine = .run ∧ (s.streams[i].state = .bound ∨ s.streams[i].state = .live) ∧
      s.streams[i].deadline = some s.control.timeBase := by
  simp only [expiryDue, Bool.and_eq_true, beq_iff_eq, Stream.inService_iff, and_assoc]

/-- Whether an expiry is due depends on the control unit and the stream alone. -/
theorem expiryDue_congr (control : u.control = s.control) (stream : u.streams[i] = s.streams[i]) :
    expiryDue i u = expiryDue i s := by
  rw [expiryDue, control, stream]; rfl

/-! ## One expiry (R65, R66) -/

/-- A stream after its expiry. -/
def Stream.silenced (x : Stream) : Stream := { x with state := .silent, deadline := none, held := false }

/-- The state after the stream's entry into SILENT and its report, before the substitute. -/
def silenceReported (i : Fin 64) (s : State) : State :=
  if 0 < s.streams[i].level then handEvent (silentEvent i s.streams[i] s.control.timeBase) (s.setStream i s.streams[i].silenced)
  else s.setStream i s.streams[i].silenced

theorem expire_eq (i : Fin 64) (s : State) : expire i s = substituteHandOff i (silenceReported i s) := rfl

theorem silenceReported_streams (i : Fin 64) (s : State) :
    (silenceReported i s).streams = s.streams.set i s.streams[i].silenced := by
  unfold silenceReported; split <;> simp

theorem silenceReported_control (i : Fin 64) (s : State) : (silenceReported i s).control = s.control := by
  unfold silenceReported; split <;> simp

theorem silenceReported_handed (i : Fin 64) (s : State) :
    HandedUnlessLevelZero (silentEvent i s.streams[i] s.control.timeBase) (s.setStream i s.streams[i].silenced)
      (silenceReported i s) := by
  refine ⟨fun zero => if_neg ?_, fun positive => ?_⟩
  · rw [show s.streams[i].level = 0 from zero]
    exact lt_irrefl 0
  · rw [silenceReported, if_pos (show 0 < s.streams[i].level from positive)]
    exact handEvent_handed _ _

/-- The stream whose silence was reported keeps its fallback and its baseline. -/
theorem silenceReported_stream (i : Fin 64) (s : State) : (silenceReported i s).streams[i] = s.streams[i].silenced := by
  simp [silenceReported_streams]

theorem expire_noFallback (absent : s.streams[i].fallback = none) : expire i s = silenceReported i s := by
  rw [expire_eq, substituteHandOff, silenceReported_stream, show s.streams[i].silenced.fallback = none from absent]

theorem expire_fallback {y : Word} (present : s.streams[i].fallback = some y) :
    expire i s =
      evaluate
        { substitute := true, stream := i, value := y, sequence := s.streams[i].baseline.getD 0, time := s.control.timeBase,
          previous := none } (silenceReported i s) := by
  rw [expire_eq, substituteHandOff, silenceReported_stream, show s.streams[i].silenced.fallback = some y from present,
    silenceReported_control]
  rfl

theorem expireIfDue_of_due (due : expiryDue i s = true) : expireIfDue i s = expire i s := if_pos due

theorem expireIfDue_of_not_due (notDue : ¬ expiryDue i s = true) : expireIfDue i s = s := if_neg notDue

theorem expire_streams (i : Fin 64) (s : State) : (expire i s).streams = s.streams.set i s.streams[i].silenced := by
  rw [expire_eq, substituteHandOff_streams, silenceReported_streams]

/-- The streams after the row SILENCE_EXPIRY. -/
theorem expireIfDue_stream (i j : Fin 64) (s : State) :
    (expireIfDue i s).streams[j] = if i = j ∧ expiryDue i s = true then s.streams[i].silenced else s.streams[j] := by
  by_cases due : expiryDue i s = true
  · simp only [expireIfDue_of_due due, expire_streams, getElem_set_fin, due, and_true]
  · rw [expireIfDue_of_not_due due, if_neg fun both => due both.2]

end

/-- Settles O18: the expiry is its report and then the substitute, where one is configured. -/
theorem silenceExpiryEffect : Obligations.SilenceExpiryEffect := by
  intro i s
  have row : exec (.silenceExpiry i) s = .next (expireIfDue i s) := rfl
  dsimp only
  rw [row, ← expiryDue_iff]
  refine ⟨fun notDue => by rw [expireIfDue_of_not_due notDue], fun due => ?_⟩
  rw [expireIfDue_of_due due]
  exact ⟨silenceReported i s, _, rfl, silenceReported_handed i s, expire_noFallback, fun _ => expire_fallback⟩

/-! ## The expiries of a tick (R64) -/

/-- The streams of a list whose expiry is due, in the order of the list. -/
def dueOf (l : List (Fin 64)) (s : State) : List (Fin 64) := l.filter fun i => expiryDue i s

theorem dueOf_cons_of_due {i : Fin 64} {l : List (Fin 64)} {s : State} (due : expiryDue i s = true) :
    dueOf (i :: l) s = i :: dueOf l s := List.filter_cons_of_pos due

theorem dueOf_cons_of_not_due {i : Fin 64} {l : List (Fin 64)} {s : State} (notDue : ¬ expiryDue i s = true) :
    dueOf (i :: l) s = dueOf l s := List.filter_cons_of_neg notDue

/-- An expiry leaves the streams that come after it in a list without repetition. -/
theorem expireIfDue_stream_of_mem {i j : Fin 64} {l : List (Fin 64)} (notIn : i ∉ l) (mem : j ∈ l) (u : State) :
    (expireIfDue i u).streams[j] = u.streams[j] := by
  rw [expireIfDue_stream, if_neg]
  rintro ⟨rfl, -⟩
  exact notIn mem

/-- From a state in which the streams of the list and the control unit are as in `s`, the expiries taken along the list are those due
in `s`. -/
theorem foldl_expireIfDue_taken {l : List (Fin 64)} (distinct : l.Nodup) {s u : State} (control : u.control = s.control)
    (streams : ∀ i ∈ l, u.streams[i] = s.streams[i]) :
    ExpiriesTaken (dueOf l s) u (l.foldl (fun t i => expireIfDue i t) u) := by
  induction l generalizing u with
  | nil => exact rfl
  | cons i l ih =>
    obtain ⟨notIn, distinct⟩ := List.nodup_cons.1 distinct
    have here := expiryDue_congr control (streams i List.mem_cons_self)
    have rest := ih distinct (u := expireIfDue i u) (by rw [expireIfDue_control, control]) fun j mem =>
      (expireIfDue_stream_of_mem notIn mem u).trans (streams j (List.mem_cons_of_mem i mem))
    by_cases due : expiryDue i s = true
    · rw [dueOf_cons_of_due due]
      exact ⟨_, rfl, rest⟩
    · rw [dueOf_cons_of_not_due due, List.foldl_cons]
      rw [expireIfDue_of_not_due (by rw [here]; exact due)] at rest ⊢
      exact rest

theorem foldl_expireIfDue_stream {l : List (Fin 64)} (distinct : l.Nodup) {s u : State} (control : u.control = s.control)
    (streams : ∀ i ∈ l, u.streams[i] = s.streams[i]) (j : Fin 64) :
    (l.foldl (fun t i => expireIfDue i t) u).streams[j] = if j ∈ dueOf l s then s.streams[j].silenced else u.streams[j] := by
  induction l generalizing u with
  | nil => rfl
  | cons i l ih =>
    obtain ⟨notIn, distinct⟩ := List.nodup_cons.1 distinct
    have here := expiryDue_congr control (streams i List.mem_cons_self)
    rw [List.foldl_cons, ih distinct (u := expireIfDue i u) (by rw [expireIfDue_control, control]) fun j mem =>
      (expireIfDue_stream_of_mem notIn mem u).trans (streams j (List.mem_cons_of_mem i mem))]
    rw [expireIfDue_stream, here, streams i List.mem_cons_self]
    by_cases same : i = j
    · subst same
      have absent : i ∉ dueOf l s := fun mem => notIn (List.mem_of_mem_filter mem)
      rw [if_neg absent]
      by_cases due : expiryDue i s = true <;> simp [dueOf, due, notIn]
    · have other : j ∈ dueOf (i :: l) s ↔ j ∈ dueOf l s := by simp [dueOf, Ne.symm same]
      simp only [other, same, false_and, if_false]

/-- The streams whose expiry is due. -/
theorem mem_dueOf_finRange {i : Fin 64} {s : State} : i ∈ dueOf (List.finRange 64) s ↔ expiryDue i s = true := by
  simp [dueOf]

theorem dueOf_ascending (s : State) : (dueOf (List.finRange 64) s).Pairwise (· < ·) :=
  (List.pairwise_lt_finRange 64).filter _

theorem takeDueExpiries_taken (s : State) : ExpiriesTaken (dueOf (List.finRange 64) s) s (takeDueExpiries s) :=
  foldl_expireIfDue_taken (List.nodup_finRange 64) rfl fun _ _ => rfl

theorem takeDueExpiries_stream (s : State) (i : Fin 64) :
    (takeDueExpiries s).streams[i] = if expiryDue i s = true then s.streams[i].silenced else s.streams[i] := by
  rw [takeDueExpiries, foldl_expireIfDue_stream (List.nodup_finRange 64) rfl fun _ _ => rfl]
  simp only [mem_dueOf_finRange]

/-- Settles O17: a tick takes the expiries that are due at its start and then counts. -/
theorem timeBaseTickCounts : Obligations.TimeBaseTickCounts := by
  intro s released
  simp only [← expiryDue_iff]
  have row : exec .timeBaseTick s = .next (advanceTime (takeDueExpiries s)) := by
    show Host.Outcome.next (if s.control.rstAsserted then s else advanceTime (takeDueExpiries s)) = _
    rw [released]; rfl
  have advanced (v : State) (control : v.control = s.control) :
      advanceTime v = { v with control := { v.control with timeBase := s.control.timeBase + 1 } } := by
    rw [← control]; rfl
  have control := takeDueExpiries_control s
  have taken := takeDueExpiries_taken s
  have members (i : Fin 64) : i ∈ dueOf (List.finRange 64) s ↔ expiryDue i s = true := mem_dueOf_finRange
  have ascending := dueOf_ascending s
  have rings := takeDueExpiries_rings s
  have cmd := takeDueExpiries_cmd s
  have readData := takeDueExpiries_readData s
  have pending := takeDueExpiries_pending s
  have streams := takeDueExpiries_stream s
  rw [advanced _ control] at row
  generalize dueOf (List.finRange 64) s = order at taken members ascending
  generalize takeDueExpiries s = v at row taken control rings cmd readData pending streams
  refine ⟨_, row, by rw [control], rings, cmd, readData, pending, fun i due => (streams i).trans (if_pos due),
    fun i notDue => (streams i).trans (if_neg notDue), ?_⟩
  refine ⟨⟨order, v, ascending, members, taken, rfl⟩, fun i due only => ?one, fun noneDue => ?none⟩
  case one =>
    have alone : order = [i] := List.perm_singleton.1 <|
      (List.perm_ext_iff_of_nodup ascending.nodup (List.nodup_singleton i)).2 fun j => by
        rw [members, List.mem_singleton]
        exact ⟨fun dueJ => by_contra fun ne => only j ne dueJ, fun e => e ▸ due⟩
    rw [alone] at taken
    obtain ⟨w, next, last⟩ := taken
    exact ⟨w, next, by rw [show v = w from last]⟩
  case none =>
    have empty : order = [] := List.eq_nil_iff_forall_not_mem.2 fun i mem => noneDue i ((members i).1 mem)
    rw [empty] at taken
    rw [show v = s from taken]

end Sys2Proof.Machine
end

section
/-!
PROOFS. Verdicts on a substitute (O45), the judgement of one watch (O46) and the writer of an event ring (O48): the branches of the
transition functions, what a transition leaves for the event, the pin of a line, the existence of a choice, and the bytes of a record.
-/

namespace Sys2Proof.Machine

/-! ## Verdicts on a substitute (R115, R116) -/

section
variable {w : Watch}

theorem Watch.substituteVerdict_fire_clearSide (side : w.state = .clear ∨ w.state = .pendingAssert) :
    w.substituteVerdict .fire = w.assertNow := by
  unfold substituteVerdict; obtain state | state := side <;> rw [state]

theorem Watch.substituteVerdict_fire_pendingClear (state : w.state = .pendingClear) :
    w.substituteVerdict .fire = (w.settle .asserted, .stays) := by
  unfold substituteVerdict; rw [state]

theorem Watch.substituteVerdict_fire_kept (side : w.state = .asserted ∨ w.state = .held) : w.substituteVerdict .fire = (w, .stays) := by
  unfold substituteVerdict; obtain state | state := side <;> rw [state]

theorem Watch.substituteVerdict_clear_kept (side : w.state = .clear ∨ w.state = .held) : w.substituteVerdict .clear = (w, .stays) := by
  unfold substituteVerdict; obtain state | state := side <;> rw [state]

theorem Watch.substituteVerdict_clear_pendingAssert (state : w.state = .pendingAssert) :
    w.substituteVerdict .clear = (w.settle .clear, .stays) := by
  unfold substituteVerdict; rw [state]

theorem Watch.substituteVerdict_clear_asserted (side : w.state = .asserted ∨ w.state = .pendingClear) :
    w.substituteVerdict .clear = w.completeClearRun := by
  unfold substituteVerdict; obtain state | state := side <;> rw [state]

theorem Watch.substituteVerdict_neutral : w.substituteVerdict .neutral = (brokenRun w, .stays) :=
  congrArg (·, Crossing.stays) w.breakRun_eq

theorem Watch.completeClearRun_runCounter : w.completeClearRun.1.runCounter = 0 := by
  unfold completeClearRun; split <;> rfl

/-- No run outlives a verdict on a substitute. -/
theorem Watch.substituteVerdict_runCounter (noRun : w.state ≠ .pendingAssert → w.state ≠ .pendingClear → w.runCounter = 0)
    (v : Verdict) : (w.substituteVerdict v).1.runCounter = 0 := by
  cases v with
  | neutral => rw [substituteVerdict_neutral]; rfl
  | fire =>
    cases state : w.state with
    | clear => rw [substituteVerdict_fire_clearSide (.inl state)]; rfl
    | pendingAssert => rw [substituteVerdict_fire_clearSide (.inr state)]; rfl
    | pendingClear => rw [substituteVerdict_fire_pendingClear state]; rfl
    | asserted => rw [substituteVerdict_fire_kept (.inl state)]; exact noRun (by simp [state]) (by simp [state])
    | held => rw [substituteVerdict_fire_kept (.inr state)]; exact noRun (by simp [state]) (by simp [state])
    | disarmed => unfold substituteVerdict; rw [state]; exact noRun (by simp [state]) (by simp [state])
  | clear =>
    cases state : w.state with
    | clear => rw [substituteVerdict_clear_kept (.inl state)]; exact noRun (by simp [state]) (by simp [state])
    | held => rw [substituteVerdict_clear_kept (.inr state)]; exact noRun (by simp [state]) (by simp [state])
    | pendingAssert => rw [substituteVerdict_clear_pendingAssert state]; rfl
    | asserted => rw [substituteVerdict_clear_asserted (.inl state)]; exact completeClearRun_runCounter
    | pendingClear => rw [substituteVerdict_clear_asserted (.inr state)]; exact completeClearRun_runCounter
    | disarmed => unfold substituteVerdict; rw [state]; exact noRun (by simp [state]) (by simp [state])

end

/-- Settles O45: each verdict in each armed state. -/
theorem substituteModeTransitions : Obligations.SubstituteModeTransitions :=
  fun _ noRun => ⟨Watch.substituteVerdict_fire_clearSide, Watch.substituteVerdict_fire_pendingClear,
    Watch.substituteVerdict_fire_kept, Watch.substituteVerdict_clear_kept, Watch.substituteVerdict_clear_pendingAssert,
    Watch.substituteVerdict_clear_asserted, fun _ => Watch.substituteVerdict_neutral,
    fun v _ => Watch.substituteVerdict_runCounter noRun v⟩

/-! ## What a transition leaves for the event (R125) -/

/-- The fields of a watch that no verdict changes. -/
structure SameContents (w w' : Watch) : Prop where
  statics : SameStatics w w'
  level : w'.level = w.level
  hold : w'.hold = w.hold

theorem SameContents.trans {w w' w'' : Watch} (h : SameContents w w') (h' : SameContents w' w'') : SameContents w w'' :=
  ⟨⟨h'.statics.stream.trans h.statics.stream, h'.statics.target.trans h.statics.target, h'.statics.alarmLine.trans h.statics.alarmLine⟩,
    h'.level.trans h.level, h'.hold.trans h.hold⟩

section
variable {w : Watch}

theorem Watch.assertNow_contents : SameContents w w.assertNow.1 := ⟨⟨rfl, rfl, rfl⟩, rfl, rfl⟩

theorem Watch.completeClearRun_contents : SameContents w w.completeClearRun.1 := by
  unfold completeClearRun; split <;> exact ⟨⟨rfl, rfl, rfl⟩, rfl, rfl⟩

theorem Watch.countFire_contents : SameContents w w.countFire.1 := by
  unfold countFire; split
  · exact assertNow_contents
  · exact ⟨⟨rfl, rfl, rfl⟩, rfl, rfl⟩

theorem Watch.countClear_contents : SameContents w w.countClear.1 := by
  unfold countClear; split
  · exact completeClearRun_contents
  · exact ⟨⟨rfl, rfl, rfl⟩, rfl, rfl⟩

theorem Watch.normalVerdict_contents (v : Verdict) : SameContents w (w.normalVerdict v).1 := by
  cases v <;> unfold normalVerdict <;> cases w.state
  case fire.clear | fire.pendingAssert => exact countFire_contents
  case clear.asserted | clear.pendingClear => exact countClear_contents
  all_goals exact ⟨⟨rfl, rfl, rfl⟩, rfl, rfl⟩

theorem Watch.substituteVerdict_contents (v : Verdict) : SameContents w (w.substituteVerdict v).1 := by
  cases v with
  | neutral => rw [substituteVerdict_neutral]; exact ⟨⟨rfl, rfl, rfl⟩, rfl, rfl⟩
  | fire =>
    unfold substituteVerdict
    cases w.state
    case clear | pendingAssert => exact assertNow_contents
    all_goals exact ⟨⟨rfl, rfl, rfl⟩, rfl, rfl⟩
  | clear =>
    unfold substituteVerdict
    cases w.state
    case asserted | pendingClear => exact completeClearRun_contents
    all_goals exact ⟨⟨rfl, rfl, rfl⟩, rfl, rfl⟩

/-- What an evaluation request makes of a watch, where the watch gives a verdict (R103). -/
def Watch.outcome (w : Watch) (r : EvalRequest) (v : Verdict) : Watch × Crossing :=
  if r.substitute then ({ w with lastEvaluated := some r.value } : Watch).substituteVerdict v
  else ({ w with lastEvaluated := some r.value } : Watch).normalVerdict v

theorem Watch.outcome_contents (r : EvalRequest) (v : Verdict) : SameContents w (w.outcome r v).1 := by
  have seen : SameContents w { w with lastEvaluated := some r.value } := ⟨⟨rfl, rfl, rfl⟩, rfl, rfl⟩
  unfold outcome
  split
  · exact seen.trans (substituteVerdict_contents v)
  · exact seen.trans (normalVerdict_contents v)

theorem Watch.judged_none {r : EvalRequest} (none : w.verdict r.value.toInt r.reference = .none) :
    w.judged r = ({ w with lastEvaluated := some r.value }, .stays) := by
  unfold judged; rw [none]

theorem Watch.judged_some {r : EvalRequest} {v : Verdict} (verdict : w.verdict r.value.toInt r.reference = some v) :
    w.judged r = w.outcome r v := by
  unfold judged; rw [verdict]; rfl

end

/-! ## The judgement of one watch (R102, R124, R127) -/

section
variable {r : EvalRequest} {id : Fin 128} {s : State} {w : Watch}

theorem judge_free (free : s.watches[id] = none) : judge r id s = s := by
  unfold judge; rw [free]

theorem judge_disarmed (used : s.watches[id] = some w) (disarmed : w.state = .disarmed) : judge r id s = s := by
  unfold judge; rw [used]; exact if_pos disarmed

theorem judge_armed (used : s.watches[id] = some w) (armed : w.state ≠ .disarmed) :
    judge r id s = moveWatch id (w.judged r).1 (w.judged r).2 r.value r.sequence r.time r.substitute s := by
  unfold judge; rw [used]; exact if_neg armed

/-- An event of a watch after a transition has the fields of the watch before it. -/
theorem SameContents.event {w' : Watch} (same : SameContents w w') (id : Fin 128) (kind : EventKind) (value : Word) (sequence : Seq)
    (time : Time) (fallback : Bool) : w'.event id kind value sequence time fallback = w.event id kind value sequence time fallback := by
  obtain ⟨⟨stream, target, -⟩, level, hold⟩ := same
  unfold Watch.event
  rw [stream, target, level, hold]

variable {out : Watch × Crossing} (value : Word) (sequence : Seq) (time : Time) (fallback : Bool)

theorem moveWatch_stays (stays : out.2 = .stays) :
    moveWatch id out.1 out.2 value sequence time fallback s = s.setWatch id (some out.1) := by
  rw [stays]; rfl

theorem moveWatch_asserts (same : SameContents w out.1) (asserts : out.2 = .asserts) :
    ∃ t, HandedUnlessLevelZero (w.event id .watchAssert value sequence time fallback) (s.setWatch id (some out.1)) t ∧
      moveWatch id out.1 out.2 value sequence time fallback s = contributionBegun w.alarmLine t := by
  refine ⟨_, same.event .. ▸ handWatchEvent_handed out.1 id .watchAssert value sequence time fallback _, ?_⟩
  rw [asserts, ← beginContribution_eq, ← same.statics.alarmLine]
  rfl

theorem moveWatch_clears (same : SameContents w out.1) (clears : out.2 = .clears) :
    ∃ t, HandedUnlessLevelZero (w.event id .watchClear value sequence time fallback) (s.setWatch id (some out.1)) t ∧
      moveWatch id out.1 out.2 value sequence time fallback s = contributionEnded w.alarmLine t := by
  refine ⟨_, same.event .. ▸ handWatchEvent_handed out.1 id .watchClear value sequence time fallback _, ?_⟩
  rw [clears, ← endContribution_eq, ← same.statics.alarmLine]
  rfl

end

/-! ## The pin of a line (R162) -/

theorem State.setAlarm_record (a : Fin 4) (l : AlarmLine) (s : State) :
    (s.setAlarm a l).pinChanges = s.pinChanges ++ pinStep (.alm a) s.alarms[a].asserted l.asserted := rfl

theorem State.setAlarm_line (a : Fin 4) (l : AlarmLine) (s : State) : (s.setAlarm a l).alarms[a] = l := by simp

section
variable {a : Fin 4} {s : State}

/-- The asserted state of a FOLLOW line as its count gives it. -/
theorem asserted_eq (law : s.alarms[a].asserted = true ↔ 0 < s.alarms[a].count) :
    s.alarms[a].asserted = decide (0 < s.alarms[a].count) := by
  rw [Bool.eq_iff_iff, law, decide_eq_true_iff]

/-- A begin report takes a FOLLOW line's pin high. -/
theorem contributionBegun_follow (follow : s.alarms[a].mode = .follow) :
    contributionBegun (some a) s = s.setAlarm a { mode := .follow, asserted := true, count := s.alarms[a].count + 1 } := by
  simp only [contributionBegun, follow]

theorem contributionEnded_follow (follow : s.alarms[a].mode = .follow) :
    contributionEnded (some a) s =
      s.setAlarm a { mode := .follow, asserted := decide (1 < s.alarms[a].count), count := s.alarms[a].count - 1 } := by
  simp only [contributionEnded, follow]

theorem contributionBegun_latch (latch : s.alarms[a].mode = .latch) :
    contributionBegun (some a) s =
      s.setAlarm a { mode := .latch, asserted := s.alarms[a].asserted || s.alarms[a].count == 0, count := s.alarms[a].count + 1 } := by
  simp only [contributionBegun, latch]

theorem contributionEnded_latch (latch : s.alarms[a].mode = .latch) :
    contributionEnded (some a) s =
      s.setAlarm a { mode := .latch, asserted := s.alarms[a].asserted, count := s.alarms[a].count - 1 } := by
  simp only [contributionEnded, latch]

theorem pins_follow (follow : s.alarms[a].mode = .follow) (law : s.alarms[a].asserted = true ↔ 0 < s.alarms[a].count) :
    (contributionBegun (some a) s).pinChanges =
        s.pinChanges ++ (if s.alarms[a].count = 0 then [{ pin := .alm a, high := true }] else []) ∧
      (contributionEnded (some a) s).pinChanges =
        s.pinChanges ++ (if s.alarms[a].count = 1 then [{ pin := .alm a, high := false }] else []) := by
  rw [contributionBegun_follow follow, contributionEnded_follow follow, State.setAlarm_record, State.setAlarm_record, asserted_eq law]
  generalize s.alarms[a].count = k
  match k with
  | 0 => exact ⟨rfl, rfl⟩
  | 1 => exact ⟨rfl, rfl⟩
  | k + 2 => simp [pinStep]

theorem pins_latch (latch : s.alarms[a].mode = .latch) (law : 0 < s.alarms[a].count → s.alarms[a].asserted = true) :
    (contributionBegun (some a) s).pinChanges =
        s.pinChanges ++ (if s.alarms[a].asserted = true then [] else [{ pin := .alm a, high := true }]) ∧
      (contributionEnded (some a) s).pinChanges = s.pinChanges := by
  rw [contributionBegun_latch latch, contributionEnded_latch latch, State.setAlarm_record, State.setAlarm_record]
  cases asserted : s.alarms[a].asserted with
  | true => simp [pinStep]
  | false =>
    have zero : s.alarms[a].count = 0 := by
      by_contra positive
      have raised := law (Nat.pos_of_ne_zero positive)
      rw [asserted] at raised
      cases raised
    rw [zero]
    exact ⟨rfl, List.append_nil _⟩

/-- An end and then a begin report at count 1 take the pin low and high again; a begin and then an end leave it. -/
theorem pins_again (follow : s.alarms[a].mode = .follow) (asserted : s.alarms[a].asserted = true) (one : s.alarms[a].count = 1) :
    (contributionBegun (some a) (contributionEnded (some a) s)).pinChanges =
        s.pinChanges ++ [{ pin := .alm a, high := false }, { pin := .alm a, high := true }] ∧
      (contributionEnded (some a) (contributionBegun (some a) s)).pinChanges = s.pinChanges := by
  rw [contributionEnded_follow follow, contributionBegun_follow follow,
    contributionBegun_follow (by rw [State.setAlarm_line]), contributionEnded_follow (by rw [State.setAlarm_line])]
  simp only [State.setAlarm_record, State.setAlarm_line, asserted, one]
  exact ⟨by simp [pinStep], by simp [pinStep]⟩

end

/-- Settles O46: the pin follows each report, and a judgement is the move of the watch that its verdict makes. -/
theorem judgementOfAWatch : Obligations.JudgementOfAWatch := by
  refine ⟨fun a s => ⟨pins_follow, pins_latch, pins_again⟩, fun _ _ => rfl, fun r id s => ⟨judge_free, fun w used =>
    ⟨judge_disarmed used, fun armed => ?_⟩⟩⟩
  rw [judge_armed used armed]
  refine ⟨fun none => ?_, fun v verdict => ⟨fun stays => ?_, fun asserts => ?_, fun clears => ?_⟩⟩
  · rw [Watch.judged_none none]; rfl
  · rw [Watch.judged_some verdict]; exact moveWatch_stays r.value r.sequence r.time r.substitute stays
  · rw [Watch.judged_some verdict]
    exact moveWatch_asserts r.value r.sequence r.time r.substitute (Watch.outcome_contents r v) asserts
  · rw [Watch.judged_some verdict]
    exact moveWatch_clears r.value r.sequence r.time r.substitute (Watch.outcome_contents r v) clears

/-! ## The choice of a writer (R143) -/

/-- Among entries of which one is above a floor, one is the oldest of the highest level above it. -/
theorem exists_oldest_highest {floor : Level} {l : List PendingEntry} (some : ∃ e ∈ l, floor < e.level) :
    ∃ e older younger, floor < e.level ∧ l = older ++ e :: younger ∧
      (∀ x ∈ older, floor < x.level → x.level < e.level) ∧ ∀ x ∈ younger, x.level ≤ e.level := by
  induction l with
  | nil => simp at some
  | cons y l ih =>
    by_cases later : ∃ e ∈ l, floor < e.level
    · obtain ⟨e, older, younger, above, rfl, lower, noHigher⟩ := ih later
      by_cases first : floor < y.level → y.level < e.level
      · exact ⟨e, y :: older, younger, above, rfl, List.forall_mem_cons.2 ⟨first, lower⟩, noHigher⟩
      · push Not at first
        obtain ⟨aboveY, high⟩ := first
        refine ⟨y, [], _, aboveY, rfl, by simp, fun x mem => ?_⟩
        rcases List.mem_append.1 mem with inOlder | inRest
        · by_cases aboveX : floor < x.level
          · exact (lower x inOlder aboveX).le.trans high
          · exact (not_lt.1 aboveX).trans aboveY.le
        · rcases List.mem_cons.1 inRest with rfl | inYounger
          · exact high
          · exact (noHigher x inYounger).trans high
    · push Not at later
      obtain ⟨e, mem, above⟩ := some
      rcases List.mem_cons.1 mem with rfl | mem
      · exact ⟨e, [], l, above, rfl, by simp, fun x inL => (later x inL).trans above.le⟩
      · exact absurd above (not_lt.2 (later e mem))

theorem exists_isChoice {n : Fin 4} {s : State} (some : ∃ e ∈ pendingOrder n s.pool, s.delivery[n].currentFloor < e.level) :
    ∃ e, IsChoice n s e := by
  obtain ⟨e, older, younger, above, order, lower, noHigher⟩ := exists_oldest_highest some
  exact ⟨e, above, older, younger, order, lower, noHigher⟩

/-! ## The bytes of an event record (R205) -/

/-- A byte that holds a number spells it. -/
theorem littleEndian_number {k : Nat} (fits : k < 256) : littleEndian [BitVec.ofNat 8 k] = k := by
  rw [littleEndian_byte, BitVec.toNat_ofNat, Nat.mod_eq_of_lt fits]

theorem littleEndian_lapByte (lap : Bool) : littleEndian [lapByte lap] = lap.toNat := by cases lap <;> rfl

theorem littleEndian_timeBytes (t : Time) : littleEndian (timeBytes t) = t.toNat := by
  rw [timeBytes, littleEndian_bytes64, BitVec.toNat_setWidth, Nat.mod_eq_of_lt (t.isLt.trans (by decide))]

theorem littleEndian_watchByte (lap : Bool) (e : PendingEntry) : littleEndian [e.source.watchByte] = (entryFields lap e).watch := by
  unfold entryFields
  cases e.source with
  | watch id => exact littleEndian_number (k := id.val) (by omega)
  | stream id => rfl

theorem littleEndian_flagsByte (e : PendingEntry) :
    littleEndian [e.flagsByte] = e.fallback.toNat + 2 * (decide (0 < e.foldCount ∧ e.firstKind = .watchAssert)).toNat := by
  have folded : decide (0 < e.foldCount ∧ e.firstKind = .watchAssert) = e.foldedFirstAssert := by
    simp [PendingEntry.foldedFirstAssert, beq_eq_decide]
  rw [folded, PendingEntry.flagsByte]
  cases e.fallback <;> cases e.foldedFirstAssert <;> rfl

theorem littleEndian_kind (lap : Bool) (e : PendingEntry) : littleEndian [e.lastKind.code] = (entryFields lap e).kind := by
  unfold entryFields; cases e.lastKind <;> rfl

/-- Each field of an entry's record is the bytes written for it. -/
theorem spells_entry (lap : Bool) {e : PendingEntry} (fold : e.foldCount ≤ 255) :
    SpellsEvent (entryFields lap e) (Payload.eventWrite (.entry lap e)).bytes where
  length := rfl
  lap := littleEndian_lapByte lap
  kind := littleEndian_kind lap e
  level := littleEndian_number (k := e.level.val) (by omega)
  fold := littleEndian_number (by omega)
  watch := littleEndian_watchByte lap e
  stream := littleEndian_number (k := e.stream.val) (by omega)
  flags := littleEndian_flagsByte e
  unused := ⟨rfl, rfl, rfl⟩
  sequence := littleEndian_bytes16 e.sequence
  value := littleEndian_bytes32 e.value
  time := littleEndian_timeBytes e.time
  lost := rfl

/-- Each field of an OVERRUN record is the bytes written for it. -/
theorem spells_overrun (lap : Bool) {carried : Nat} (time : Time) (fits : carried ≤ 65535) :
    SpellsEvent (overrunFields lap carried time) (Payload.eventWrite (.overrun lap carried time)).bytes where
  length := rfl
  lap := littleEndian_lapByte lap
  kind := rfl
  level := rfl
  fold := rfl
  watch := rfl
  stream := rfl
  flags := rfl
  unused := ⟨rfl, rfl, rfl⟩
  sequence := rfl
  value := rfl
  time := littleEndian_timeBytes time
  lost := (littleEndian_bytes16 (BitVec.ofNat 16 carried)).trans
    ((BitVec.toNat_ofNat _ _).trans (Nat.mod_eq_of_lt (by omega)))

/-- Settles O48: the two records' bytes, the writer's check, and the choice among deliverable entries. -/
theorem writerTakesTheHighestThenOldest : Obligations.WriterTakesTheHighestThenOldest :=
  ⟨fun lap _ fold => spells_entry lap fold, fun lap _ time fits => spells_overrun lap time fits, checkWriter_checked,
    fun _ _ => exists_isChoice⟩

end Sys2Proof.Machine
end

section
/-!
PROOFS. The completions that reach their blocks (O20 to O23): the end of a load, the command path's writes and their bytes, sample
fetches and event record writes that no command waits for.
-/

namespace Sys2Proof.Machine

/-! ## The setup read (R181 to R184) -/

/-- The check of a setup block is R182's. -/
theorem SetupBlock.valid_iff {b : SetupBlock} : b.valid = true ↔
    GoodGeometry 8 1024 b.commandBase b.commandSlots.toNat ∧ GoodGeometry 8 1024 b.replyBase b.replySlots.toNat ∧
      8 ∣ b.shadowAddr.toNat := by
  rw [valid, Bool.and_eq_true, Bool.and_eq_true, validGeometry_iff _ _ _ b.commandSlots.isLt, validGeometry_iff _ _ _ b.replySlots.isLt,
    beq_iff_eq, Nat.dvd_iff_mod_eq_zero, and_assoc]

section
variable {a : Access} {s : State}

theorem setupReadCompletion_error (returns : Returns commandRequester a s) (setup : a.payload = .setupRead) :
    exec (.setupReadCompletion .accessError) s =
      .next (faultReport .setupReadError a.address (s.setAccess commandRequester none)) :=
  onArrival_of_returns returns (by rw [setup]; rfl)

theorem setupReadCompletion_ok (returns : Returns commandRequester a s) (setup : a.payload = .setupRead) (bytes : Vector Byte 28) :
    exec (.setupReadCompletion (.ok bytes)) s =
      .next
        (if (setupFields bytes.toList).valid then endLoad (setupFields bytes.toList) (s.setAccess commandRequester none)
        else faultReport .setupInvalid 0 (s.setAccess commandRequester none)) := by
  rw [← setupBlock_eq]
  exact onArrival_of_returns returns (by rw [setup]; rfl)

/-- A valid block ends the load in STOPPED with a held STOP. -/
theorem endLoad_held (b : SetupBlock) (held : s.control.heldStop = true) :
    endLoad b s = ((loadSetup b s).mapControl fun c => { c with heldStop := false }).setEngine .stopped := if_pos held

/-- A valid block ends the load in RUN otherwise. -/
theorem endLoad_notHeld (b : SetupBlock) (notHeld : s.control.heldStop = false) :
    endLoad b s = startSampleFetches (startCommandFetch ((loadSetup b s).setEngine .run)) :=
  if_neg (by rw [notHeld]; decide)

end

/-- Settles O20: an error, an invalid block, and a valid block with and without a held STOP. -/
theorem setupReadEndsTheLoad : Obligations.SetupReadEndsTheLoad := by
  intro a s returns setup
  refine ⟨⟨_, setupReadCompletion_error returns setup, faultReport_reported _ _ _⟩, fun bytes => ?_⟩
  dsimp only
  rw [setupReadCompletion_ok returns setup, ← SetupBlock.valid_iff]
  refine ⟨fun invalid => ?_, fun valid held => ?_, fun valid notHeld => ?_⟩
  · rw [if_neg invalid]; exact ⟨_, rfl, faultReport_reported _ _ _⟩
  · rw [if_pos valid, endLoad_held _ (by exact held)]; rfl
  · rw [if_pos valid, endLoad_notHeld _ (by exact notHeld)]
    exact ⟨_, _, rfl, startCommandFetch_checked _, startSampleFetches_checked _⟩

/-! ## The bytes of reply and shadow writes (R203, R206) -/

theorem littleEndian_status (status : Status) : littleEndian [status.code] = match status with
    | .ok => 0
    | .unknownCommand => 1
    | .badArgument => 2
    | .notFound => 3
    | .inUse => 4
    | .wrongState => 5
    | .full => 6
    | .stillActive => 7 := by
  cases status <;> rfl

/-- Each field of a reply record is the bytes written for it. -/
theorem spells_reply (r : ReplyRecord) : SpellsReply r (Payload.replyWrite r).bytes where
  length := rfl
  lap := littleEndian_lapByte r.lap
  status := (littleEndian_status r.status).trans (by cases r.status <;> rfl)
  tag := littleEndian_bytes16 r.tag
  code := littleEndian_byte r.code
  unused := show littleEndian (List.replicate 11 0) = 0 by decide
  word0 := littleEndian_bytes32 r.words.w0
  word1 := littleEndian_bytes32 r.words.w1
  word2 := littleEndian_bytes32 r.words.w2
  word3 := littleEndian_bytes32 r.words.w3

/-- A field behind other bytes. -/
theorem field_behind (before rest : List Byte) (offset width : Nat) :
    field (before ++ rest) (before.length + offset) width = field rest offset width := by
  simp [field, ← List.drop_drop]

theorem shadowBytes_cons (i : Nat) (l : List Nat) :
    shadowBytes (i :: l) = bytes32 ((BitVec.ofNat 16 i).setWidth 32) ++ shadowBytes l := rfl

theorem shadowBytes_length (l : List Nat) : (shadowBytes l).length = 4 * l.length := by
  induction l with
  | nil => rfl
  | cons i l ih =>
    rw [shadowBytes_cons, List.length_append, ih, List.length_cons, show (bytes32 _).length = 4 from rfl]
    omega

/-- Each word of the shadow area is its index in the lower 16 bits. -/
theorem shadowBytes_word (l : List Nat) (k : Nat) (h : k < l.length) : field (shadowBytes l) (4 * k) 4 = l[k] % 65536 := by
  induction l generalizing k with
  | nil => exact absurd h (Nat.not_lt_zero k)
  | cons i l ih =>
    rw [shadowBytes_cons]
    cases k with
    | zero =>
      refine (field_append [] (bytes32 ((BitVec.ofNat 16 i).setWidth 32)) (shadowBytes l)).trans ?_
      rw [littleEndian_bytes32, BitVec.toNat_setWidth, BitVec.toNat_ofNat, List.getElem_cons_zero]
      omega
    | succ k =>
      have offset : 4 * (k + 1) = (bytes32 ((BitVec.ofNat 16 i).setWidth 32)).length + 4 * k := by
        rw [show (bytes32 ((BitVec.ofNat 16 i).setWidth 32)).length = 4 from rfl]; omega
      rw [offset, field_behind]
      exact ih k (Nat.lt_of_succ_lt_succ h)

/-! ## The command path and the shadow area (R15, R16, R43, R46, R47) -/

section
variable {a : Access} {s : State}

theorem replyWriteCompletion_ok (returns : Returns replyRequester a s) (reply : ∃ r, a.payload = .replyWrite r) :
    exec (.replyWriteCompletion (.ok ())) s = .next (replyWritten (s.setAccess replyRequester none)) := by
  obtain ⟨r, reply⟩ := reply
  exact onArrival_of_returns returns (by rw [reply]; rfl)

theorem replyWriteCompletion_error (returns : Returns replyRequester a s) (reply : ∃ r, a.payload = .replyWrite r) :
    exec (.replyWriteCompletion .accessError) s = .next (replyWriteFailed a (s.setAccess replyRequester none)) := by
  obtain ⟨r, reply⟩ := reply
  exact onArrival_of_returns returns (by rw [reply]; rfl)

theorem commandFetchCompletion_error (returns : Returns commandRequester a s) (fetch : a.payload = .commandFetch) :
    exec (.commandFetchCompletion .accessError) s = .next (commandFetchFailed a (s.setAccess commandRequester none)) :=
  onArrival_of_returns returns (by rw [fetch]; rfl)

theorem shadowWriteCompletion_ok (returns : Returns shadowRequester a s) (shadow : ∃ l, a.payload = .shadowWrite l) :
    exec (.shadowWriteCompletion (.ok ())) s = .next (checkStoppingEnd (issueShadowWrite (s.setAccess shadowRequester none))) := by
  obtain ⟨l, shadow⟩ := shadow
  exact onArrival_of_returns returns (by rw [shadow]; rfl)

theorem shadowWriteCompletion_error (returns : Returns shadowRequester a s) (shadow : ∃ l, a.payload = .shadowWrite l) :
    exec (.shadowWriteCompletion .accessError) s =
      .next (faultReport .shadowWriteError a.address (s.setAccess shadowRequester none)) := by
  obtain ⟨l, shadow⟩ := shadow
  exact onArrival_of_returns returns (by rw [shadow]; rfl)

end

/-- Settles O21: the bytes of the two writes, and each completion with the checks that follow it. -/
theorem commandPathCompletions : Obligations.CommandPathCompletions := by
  refine ⟨spells_reply, fun indices nine => ⟨by rw [Payload.bytes, shadowBytes_length, nine], shadowBytes_word indices⟩, fun a s =>
    ⟨fun returns reply => ⟨⟨_, _, replyWriteCompletion_ok returns reply, startCommandFetch_checked _, checkStoppingEnd_checked _⟩,
      ⟨_, replyWriteCompletion_error returns reply, faultReport_reported _ _ _⟩⟩, fun returns fetch =>
      ⟨_, commandFetchCompletion_error returns fetch, faultReport_reported _ _ _⟩, fun returns shadow =>
      ⟨⟨_, _, shadowWriteCompletion_ok returns shadow, issueShadowWrite_checked _, checkStoppingEnd_checked _⟩,
        ⟨_, shadowWriteCompletion_error returns shadow, faultReport_reported _ _ _⟩⟩⟩⟩

/-! ## Commands that wait (R39) -/

section
variable {s t : State}

/-- Which command waits is the command engine's alone. -/
theorem sampleCommandWaits_congr (cmd : t.cmd = s.cmd) (n : Fin 8) : sampleCommandWaits n t ↔ sampleCommandWaits n s := by
  unfold sampleCommandWaits closeSampleWaits openSampleWaits waitsWith; rw [cmd]

theorem eventCommandWaits_congr (cmd : t.cmd = s.cmd) (n : Fin 4) : eventCommandWaits n t ↔ eventCommandWaits n s := by
  unfold eventCommandWaits closeEventWaits openEventWaits waitsWith; rw [cmd]

/-- The check that a CLOSE_SAMPLE_RING waits. -/
theorem closeWaitsOn_iff {n : Fin 8} : closeWaitsOn n s = true ↔ closeSampleWaits n s := by
  unfold closeWaitsOn closeSampleWaits waitsWith
  split
  · next rec phase held => simp [phase, held, fieldBelow_eq_some, and_comm]
  · next other =>
    simp only [Bool.false_eq_true, false_iff]
    rintro ⟨rec, phase, held, -⟩
    exact other rec phase held

theorem resumeSampleCommand_of_not_waits {n : Fin 8} (none : ¬ sampleCommandWaits n s) : resumeSampleCommand n s = s := by
  unfold resumeSampleCommand
  split
  · next rec phase held =>
    by_cases name : fieldBelow 8 rec.index = some n
    · rw [if_pos name]
      cases request : rec.request with
      | openSampleRing base slots => exact (none (.inr ⟨base, slots, rec, phase, held, fieldBelow_eq_some.1 name, request⟩)).elim
      | closeSampleRing => exact (none (.inl ⟨rec, phase, held, fieldBelow_eq_some.1 name, request⟩)).elim
      | _ => rfl
    · exact if_neg name
  · rfl

theorem resumeEventCommand_of_not_waits {n : Fin 4} (none : ¬ eventCommandWaits n s) : resumeEventCommand n s = s := by
  unfold resumeEventCommand
  split
  · next rec phase held =>
    by_cases name : fieldBelow 4 rec.index = some n
    · rw [if_pos name]
      cases request : rec.request with
      | openEventRing base slots notify floor =>
        exact (none (.inr ⟨base, slots, notify, floor, rec, phase, held, fieldBelow_eq_some.1 name, request⟩)).elim
      | closeEventRing => exact (none (.inl ⟨rec, phase, held, fieldBelow_eq_some.1 name, request⟩)).elim
      | _ => rfl
    · exact if_neg name
  · rfl

/-! ## Sample fetches (R22, R23, R54, R55) -/

/-- What follows the end of a fetch that no command waits for. -/
theorem afterSampleFetch_of_not_waits {n : Fin 8} (none : ¬ sampleCommandWaits n s) :
    ∃ v w, SampleFetchChecked n s v ∧ ShadowChecked v w ∧ StoppingEndChecked w (afterSampleFetch n s) := by
  rw [afterSampleFetch, resumeSampleCommand_of_not_waits none]
  exact ⟨_, _, startSampleFetch_checked n s, issueShadowWrite_checked _, checkStoppingEnd_checked _⟩

/-- The records of a fetch are discarded on a ring that is not OPEN, and where a close waits. -/
theorem takeSamples_discarded {n : Fin 8} (records : List (Vector Byte 8))
    (discarded : s.rings.sample[n].state ≠ .opened ∨ closeSampleWaits n s) : takeSamples n records s = s := by
  unfold takeSamples
  rw [if_neg]
  rintro ⟨opened, noClose⟩
  obtain notOpened | closing := discarded
  · exact notOpened opened
  · rw [closeWaitsOn_iff.2 closing] at noClose; cases noClose

theorem takeSamples_opened {n : Fin 8} (records : List (Vector Byte 8)) (opened : s.rings.sample[n].state = .opened)
    (none : ¬ sampleCommandWaits n s) :
    takeSamples n records s =
      consumeSamples n records.length ((records.map fun b => sampleFields b.toList).foldl (fun y x => processRecord n x y) s) := by
  have noClose : closeWaitsOn n s = false := by
    rw [← Bool.not_eq_true, closeWaitsOn_iff]; exact fun closing => none (.inl closing)
  unfold takeSamples
  rw [if_pos ⟨opened, noClose⟩]
  simp only [sampleRecord_eq]
  rfl

variable {a : Access} {n : Fin 8}

theorem sampleFetchCompletion_ok (returns : Returns (sampleRequester n) a s) {records : List (Vector Byte 8)}
    (fetch : a.payload = .sampleFetch records.length) :
    exec (.sampleFetchCompletion n (.ok records)) s =
      .next (afterSampleFetch n (takeSamples n records (s.setAccess (sampleRequester n) none))) :=
  onArrival_of_returns returns (by rw [fetch]; simp [isSampleFetch, recordCount])

theorem sampleFetchCompletion_error (returns : Returns (sampleRequester n) a s) (fetch : ∃ k, a.payload = .sampleFetch k) :
    exec (.sampleFetchCompletion n .accessError) s =
      .next (afterSampleFetch n (sampleFetchFailed n (s.setAccess (sampleRequester n) none))) := by
  obtain ⟨k, fetch⟩ := fetch
  exact onArrival_of_returns returns (by rw [fetch]; rfl)

end

/-- The records of a fetch leave the command engine. -/
theorem foldl_processRecord_cmd (n : Fin 8) (l : List SampleRecord) (s : State) :
    (l.foldl (fun y x => processRecord n x y) s).cmd = s.cmd := processRecords_cmd n l s

/-- Settles O22: the records by the ring's state, or the error's fault, and then the checks. -/
theorem sampleFetchCompletes : Obligations.SampleFetchCompletes := by
  intro n a s returns none
  have quiet {y : State} (cmd : y.cmd = s.cmd) : ¬ sampleCommandWaits n y := mt (sampleCommandWaits_congr cmd n).1 none
  refine ⟨fun records fetch => ⟨fun opened => ⟨_, sampleFetchCompletion_ok returns fetch, ?_⟩,
    fun notOpened => ⟨_, sampleFetchCompletion_ok returns fetch, ?_⟩⟩,
    fun fetch => ⟨fun opened => ⟨_, sampleFetchCompletion_error returns fetch, ?_⟩,
      fun notOpened => ⟨_, sampleFetchCompletion_error returns fetch, ?_⟩⟩⟩
  · rw [takeSamples_opened (s := s.setAccess (sampleRequester n) .none) records opened (quiet rfl)]
    exact afterSampleFetch_of_not_waits (quiet (foldl_processRecord_cmd n _ _))
  · rw [takeSamples_discarded (s := s.setAccess (sampleRequester n) .none) records (.inl notOpened)]
    exact afterSampleFetch_of_not_waits (quiet rfl)
  · have failed : sampleFetchFailed n (s.setAccess (sampleRequester n) .none) =
        (s.setAccess (sampleRequester n) .none).setSampleRing n
          { s.rings.sample[n] with state := .faulted, cause := .accessError } :=
      congrArg (fun r => (s.setAccess (sampleRequester n) .none).setSampleRing n r) (SampleRing.faultWith_of_opened opened _)
    rw [failed]
    exact afterSampleFetch_of_not_waits (quiet rfl)
  · have kept : sampleFetchFailed n (s.setAccess (sampleRequester n) .none) = s.setAccess (sampleRequester n) .none := by
      rw [sampleFetchFailed, SampleRing.faultWith_of_not_opened (by exact notOpened), State.setSampleRing_self]
    rw [kept]
    exact afterSampleFetch_of_not_waits (quiet rfl)

/-! ## Event record writes (R24, R147 to R150) -/

section
variable {s : State} {a : Access} {n : Fin 4}

theorem State.setDelivery_self (n : Fin 4) (s : State) : s.setDelivery n s.delivery[n] = s := by
  simp [State.setDelivery]

/-- What is left of the lost count keeps the overrun owed. -/
theorem Delivery.settleOverrun_eq (carried : Nat) (d : Delivery) :
    d.settleOverrun carried = { d with lost := d.lost - carried, owed := decide (carried < d.lost) } := by
  rw [settleOverrun, decide_eq_decide.2 (show 0 < d.lost - carried ↔ carried < d.lost by omega)]

/-- A completion of a write with its result. -/
def writeResult (ok : Bool) : Completion Unit := if ok then .ok () else .accessError

/-- A completed entry write is settled, and what waits goes on. -/
theorem eventWriteCompletion_settles (returns : Returns (eventRequester n) a s) {lap : Bool} {e : PendingEntry}
    (write : a.payload = .eventWrite (.entry lap e)) (ok : Bool) :
    exec (.eventWriteCompletion n (writeResult ok)) s =
      .next (afterEventWrite n (writeEnded n (.entry lap e) ok (s.setAccess (eventRequester n) none))) := by
  refine (onArrival_of_returns returns (by rw [write]; rfl)).trans ?_
  rw [write]
  cases ok <;> rfl

theorem overrunWriteCompletion_settles (returns : Returns (eventRequester n) a s) {lap : Bool} {k : Nat} {time : Time}
    (write : a.payload = .eventWrite (.overrun lap k time)) (ok : Bool) :
    exec (.overrunWriteCompletion n (writeResult ok)) s =
      .next (afterEventWrite n (writeEnded n (.overrun lap k time) ok (s.setAccess (eventRequester n) none))) := by
  refine (onArrival_of_returns returns (by rw [write]; rfl)).trans ?_
  rw [write]
  cases ok with
  | true => simp only [writeResult, if_true, overrunDelivered, Delivery.settleOverrun_eq]; rfl
  | false => exact congrArg (fun u => Host.Outcome.next (afterEventWrite n u)) (State.setDelivery_self n _).symm

theorem writeEnded_cmd (n : Fin 4) (r : EventRecord) (ok : Bool) (u : State) : (writeEnded n r ok u).cmd = u.cmd := by
  cases ok <;> rfl

/-- What follows the end of a write that no command waits for. -/
theorem afterEventWrite_of_not_waits (none : ¬ eventCommandWaits n s) :
    ∃ v, WriterChecked n s v ∧ StoppingEndChecked v (afterEventWrite n s) := by
  rw [afterEventWrite, resumeEventCommand_of_not_waits none]
  exact ⟨_, checkWriter_checked n s, checkStoppingEnd_checked _⟩

end

/-- Settles O23: the record is settled, and the writer and the end of STOPPING are checked. -/
theorem eventWritesComplete : Obligations.EventWritesComplete := by
  intro n a s returns none
  have follows (r : EventRecord) (ok : Bool) :=
    afterEventWrite_of_not_waits (n := n) (s := writeEnded n r ok (s.setAccess (eventRequester n) .none))
      (mt (eventCommandWaits_congr (writeEnded_cmd n r ok _) n).1 none)
  exact ⟨fun lap e write => ⟨⟨_, eventWriteCompletion_settles returns write true, follows _ _⟩,
      ⟨_, eventWriteCompletion_settles returns write false, follows _ _⟩⟩,
    fun lap k time write => ⟨⟨_, overrunWriteCompletion_settles returns write true, follows _ _⟩,
      ⟨_, overrunWriteCompletion_settles returns write false, follows _ _⟩⟩⟩

end Sys2Proof.Machine
end

section
/-!
PROOFS. The commands that resume (O24, O25): the second half of a command that waited for an access, and that the checks after it start
nothing on its ring.
-/

namespace Sys2Proof.Machine

section
variable {s : State} {rec : CommandRecord}

/-! ## The second half of a command (R39) -/

theorem resumeSampleCommand_close {n : Fin 8} (waits : waitsWith n.val .closeSampleRing rec s) :
    resumeSampleCommand n s = answerCommand rec (finishCloseSampleRing n s) s := by
  obtain ⟨phase, held, name, request⟩ := waits
  unfold resumeSampleCommand
  rw [phase, held]
  dsimp only
  rw [if_pos (fieldBelow_eq_some.2 name), request]

theorem resumeSampleCommand_open {n : Fin 8} {base : Addr} {slots : BitVec 16}
    (waits : waitsWith n.val (.openSampleRing base slots) rec s) :
    resumeSampleCommand n s = answerCommand rec (finishOpenSampleRing n base slots.toNat s) s := by
  obtain ⟨phase, held, name, request⟩ := waits
  unfold resumeSampleCommand
  rw [phase, held]
  dsimp only
  rw [if_pos (fieldBelow_eq_some.2 name), request]

theorem resumeEventCommand_close {n : Fin 4} (waits : waitsWith n.val .closeEventRing rec s) :
    resumeEventCommand n s = answerCommand rec (finishCloseEventRing n s) s := by
  obtain ⟨phase, held, name, request⟩ := waits
  unfold resumeEventCommand
  rw [phase, held]
  dsimp only
  rw [if_pos (fieldBelow_eq_some.2 name), request]

theorem resumeEventCommand_open {n : Fin 4} {base : Addr} {slots : BitVec 16} {notify floor : Byte} {l f : Level}
    (waits : waitsWith n.val (.openEventRing base slots notify floor) rec s) (hl : notify.toNat = l.val) (hf : floor.toNat = f.val) :
    resumeEventCommand n s = answerCommand rec (finishOpenEventRing n base slots.toNat l f s) s := by
  obtain ⟨phase, held, name, request⟩ := waits
  unfold resumeEventCommand
  rw [phase, held]
  dsimp only
  rw [if_pos (fieldBelow_eq_some.2 name), request]
  dsimp only
  rw [fieldBelow_eq_some.2 hl, fieldBelow_eq_some.2 hf]

/-- The reply of the command engine is R42's. -/
theorem sendReply_eq (rec : CommandRecord) (status : Status) (words : Words) (s : State) :
    sendReply rec status words s = replied rec status words s := rfl

/-- STOPPING does not end while a reply is to be written. -/
theorem checkStoppingEnd_replied {t : State} (status : Status) (words : Words) (cmd : t.cmd = (replied rec status words s).cmd) :
    checkStoppingEnd t = t := checkStoppingEnd_of_not_waiting (by rw [cmd]; exact (by decide : CommandPhase.replying ≠ .waiting))

/-! ## Checks that start nothing -/

theorem startSampleFetch_of_not_started {n : Fin 8} (none : fetchStarted n s = .none) : startSampleFetch n s = s := by
  have checked := startSampleFetch_checked n s
  unfold SampleFetchChecked at checked
  rwa [none] at checked

theorem startSampleFetch_notOpened {n : Fin 8} (notOpened : s.rings.sample[n].state ≠ .opened) : startSampleFetch n s = s :=
  startSampleFetch_of_not_started (if_neg fun ⟨_, opened, _⟩ => notOpened opened)

theorem startSampleFetch_empty {n : Fin 8} (empty : s.rings.sample[n].count = 0) : startSampleFetch n s = s :=
  startSampleFetch_of_not_started (if_neg fun ⟨_, _, filled, _⟩ => absurd filled (by rw [empty]; decide))

/-- A ring just opened is empty. -/
theorem SampleRing.openedWith_count (base : Addr) (slots : Nat) : (SampleRing.openedWith base slots).count = 0 := by
  rw [openedWith, Descriptor.count, ringDiff, Nat.zero_mod, Nat.zero_add, Nat.sub_zero, Nat.mod_self]

theorem checkWriter_notReady {n : Fin 4} (notReady : ¬ writerReady n s = true) : checkWriter n s = s := if_neg notReady

/-- A writer that has nothing to issue. -/
theorem checkWriter_nothing {n : Fin 4} (notOwed : s.delivery[n].owed = false) (none : chosenEntry n s = none) :
    checkWriter n s = s := by
  unfold checkWriter
  rw [notOwed, none]
  split <;> rfl

/-- After its check a writer has a write in flight, or it is idle: not ready, or with nothing to issue. -/
theorem checkWriter_issues_or_idle (n : Fin 4) (s : State) :
    ((checkWriter n s).access (eventRequester n)).isSome = true ∨
      checkWriter n s = s ∧ (¬ writerReady n s = true ∨ (s.delivery[n].owed = false ∧ chosenEntry n s = none)) := by
  by_cases ready : writerReady n s = true
  · cases owed : s.delivery[n].owed with
    | true =>
      left
      rw [checkWriter, if_pos ready, if_pos owed]
      simp [issueRecord, handOver]
    | false =>
      cases chosen : chosenEntry n s with
      | none => exact .inr ⟨checkWriter_nothing owed chosen, .inr ⟨rfl, rfl⟩⟩
      | some e =>
        left
        rw [checkWriter, if_pos ready, if_neg (by rw [owed]; decide), chosen]
        simp [issueRecord, handOver]
  · exact .inr ⟨checkWriter_notReady ready, .inl ready⟩

/-- The reply leaves what the writers look at. -/
theorem writerReady_replied (n : Fin 4) (status : Status) (words : Words) :
    writerReady n (replied rec status words s) = writerReady n s := by
  have access : (replied rec status words s).access (eventRequester n) = s.access (eventRequester n) :=
    State.access_setAccess_ne _ _ _ _ (by revert n; decide)
  unfold writerReady
  rw [State.busy_def, State.busy_def, access]
  rfl

/-- A writer that has checked checks again after the reply without effect. -/
theorem checkWriter_replied_checkWriter (n : Fin 4) (status : Status) (words : Words) (s : State) :
    checkWriter n (replied rec status words (checkWriter n s)) = replied rec status words (checkWriter n s) := by
  obtain busy | ⟨idle, notReady | ⟨notOwed, none⟩⟩ := checkWriter_issues_or_idle n s
  · refine checkWriter_notReady ?_
    rw [writerReady_replied]
    unfold writerReady
    rw [State.busy_def, busy]
    simp
  · rw [idle]
    exact checkWriter_notReady (by rw [writerReady_replied]; exact notReady)
  · rw [idle]
    exact checkWriter_nothing notOwed none

end

/-! ## Sample rings (R25, R26) -/

/-- The state of the ring's owner after the end of a fetch whose records are discarded. -/
def fetchEnded (n : Fin 8) (result : Completion (List (Vector Byte 8))) (s : State) : State :=
  match result with
  | .ok _ => s.setAccess (sampleRequester n) none
  | .accessError => sampleFetchFailed n (s.setAccess (sampleRequester n) none)

section
variable {n : Fin 8} {a : Access} {s : State} {result : Completion (List (Vector Byte 8))}

/-- The end of a fetch whose records are discarded. -/
theorem sampleFetchCompletion_discarded (returns : Returns (sampleRequester n) a s)
    (completes : rowCompletes (.sampleFetchCompletion n result) a.payload = true)
    (discarded : s.rings.sample[n].state ≠ .opened ∨ closeSampleWaits n s) :
    exec (.sampleFetchCompletion n result) s = .next (afterSampleFetch n (fetchEnded n result s)) := by
  cases result with
  | accessError =>
    cases payload : a.payload <;> rw [payload] at completes <;> try cases completes
    exact sampleFetchCompletion_error returns ⟨_, payload⟩
  | ok records =>
    cases payload : a.payload <;> rw [payload] at completes <;> try cases completes
    next count =>
    have length : records.length = count := beq_iff_eq.1 completes
    rw [sampleFetchCompletion_ok returns (by rw [payload, length]),
      takeSamples_discarded (s := s.setAccess (sampleRequester n) none) records discarded]
    rfl

theorem fetchEnded_cmd : (fetchEnded n result s).cmd = s.cmd := by cases result <;> rfl

/-- The ring after the end of the fetch: an error faults it if it is OPEN. -/
theorem fetchEnded_ring : (fetchEnded n result s).rings.sample[n] = s.rings.sample[n] ∨
    (fetchEnded n result s).rings.sample[n] = { s.rings.sample[n] with state := .faulted, cause := .accessError } := by
  cases result with
  | ok _ => exact .inl rfl
  | accessError =>
    by_cases opened : s.rings.sample[n].state = .opened
    · right
      simp only [fetchEnded, sampleFetchFailed, State.setSampleRing_rings, getElem_set_fin, if_true]
      exact SampleRing.faultWith_of_opened opened _
    · left
      simp only [fetchEnded, sampleFetchFailed, State.setSampleRing_rings, getElem_set_fin, if_true]
      exact SampleRing.faultWith_of_not_opened opened _

/-- The event ends with the reply and the owed shadow write, where the check of the ring's next fetch starts nothing. -/
theorem answers_of_resumed {i : Instr} {u v : State} {rec : CommandRecord} {words : Words} (row : exec i s = .next (afterSampleFetch n u))
    (resumed : resumeSampleCommand n u = replied rec .ok words v)
    (noFetch : startSampleFetch n (replied rec .ok words v) = replied rec .ok words v) : Answers i s rec .ok words v := by
  refine ⟨issueShadowWrite (replied rec .ok words v), ?_, issueShadowWrite_checked _⟩
  rw [row, afterSampleFetch, resumed, noFetch, checkStoppingEnd_replied .ok words (issueShadowWrite_cmd _)]

variable {rec : CommandRecord}

/-- The command that waits is the same after the end of the fetch. -/
theorem waitsWith_congr {t : State} (cmd : t.cmd = s.cmd) {index : Nat} {q : Request} (waits : waitsWith index q rec s) :
    waitsWith index q rec t := by
  unfold waitsWith; rw [cmd]; exact waits

/-- A close that waited reports the counts and closes the ring, faulted or not. -/
theorem closeSampleRing_resumes (returns : Returns (sampleRequester n) a s)
    (completes : rowCompletes (.sampleFetchCompletion n result) a.payload = true) (waits : waitsWith n.val .closeSampleRing rec s) :
    Answers (.sampleFetchCompletion n result) s rec .ok
      { w0 := packed [(0, 32, s.rings.sample[n].count)], w1 := packed [(0, 32, s.rings.sample[n].unrouted)] }
      ((fetchEnded n result s).setSampleRing n { s.rings.sample[n] with state := .closed, cause := .noCause }) := by
  refine answers_of_resumed (sampleFetchCompletion_discarded returns completes (.inr ⟨rec, waits⟩)) ?_
    (startSampleFetch_notOpened ?_)
  · rw [resumeSampleCommand_close (waitsWith_congr fetchEnded_cmd waits), finishCloseSampleRing, packed_number, packed_number]
    obtain ring | ring := fetchEnded_ring (n := n) (s := s) (result := result) <;> rw [ring] <;> rfl
  · show ((fetchEnded n result s).rings.sample.set n _)[n].state ≠ _
    rw [getElem_set_fin, if_pos rfl]
    exact (by decide : RingState.closed ≠ .opened)

/-- An open that waited on a FAULTED ring opens it anew. -/
theorem openSampleRing_resumes (returns : Returns (sampleRequester n) a s)
    (completes : rowCompletes (.sampleFetchCompletion n result) a.payload = true) {base : Addr} {slots : BitVec 16}
    (waits : waitsWith n.val (.openSampleRing base slots) rec s) (faulted : s.rings.sample[n].state = .faulted) :
    Answers (.sampleFetchCompletion n result) s rec .ok {}
      (((fetchEnded n result s).setSampleRing n (SampleRing.openedWith base slots.toNat)).setShadowOwed true) := by
  refine answers_of_resumed (sampleFetchCompletion_discarded returns completes (.inl (by rw [faulted]; decide))) ?_
    (startSampleFetch_empty ?_)
  · rw [resumeSampleCommand_open (waitsWith_congr fetchEnded_cmd waits)]
    rfl
  · show ((fetchEnded n result s).rings.sample.set n (SampleRing.openedWith base slots.toNat))[n].count = 0
    rw [getElem_set_fin, if_pos rfl]
    exact SampleRing.openedWith_count base slots.toNat

end

/-- Settles O24: the close and the open that wait for a fetch, after its success and after its error. -/
theorem waitingSampleCommandsResume : Obligations.WaitingSampleCommandsResume := by
  intro n a s rec result returns completes
  have resume := And.intro (closeSampleRing_resumes (rec := rec) returns completes)
    fun base slots waits => openSampleRing_resumes (rec := rec) (base := base) (slots := slots) returns completes waits
  cases result with
  | ok records => exact resume
  | accessError => exact resume

/-! ## Event rings (R28, R29) -/

section
variable {n : Fin 4} {a : Access} {s : State} {rec : CommandRecord}

/-- A settled record leaves a ring that is not OPEN in its state. -/
theorem writeEnded_ring_state (e : EventRecord) (ok : Bool) (notOpened : s.rings.event[n].state ≠ .opened) :
    (writeEnded n e ok s).rings.event[n].state = s.rings.event[n].state := by
  cases ok with
  | true =>
    show (s.rings.event.set n _)[n].state = _
    rw [getElem_set_fin, if_pos rfl]
  | false =>
    show (s.rings.event.set n _)[n].state = _
    rw [getElem_set_fin, if_pos rfl, if_neg notOpened]

/-- A close that waited: its reply, after which the writer finds the ring CLOSED. -/
theorem afterEventWrite_close (waits : waitsWith n.val .closeEventRing rec s) :
    afterEventWrite n s =
      replied rec .ok { w0 := packed [(0, 32, s.rings.event[n].count)], w1 := packed [(0, 32, s.delivery[n].lost)] }
        ((s.setEventRing n { s.rings.event[n] with state := .closed, cause := .noCause, attention := false }).setDelivery n
          Delivery.atReset) := by
  have closed (words : Words) (r : EventRing) (notOpened : r.state ≠ .opened) (d : Delivery) :
      ¬ writerReady n (replied rec .ok words ((s.setEventRing n r).setDelivery n d)) = true := by
    rw [writerReady_iff]
    rintro ⟨opened, -⟩
    refine notOpened (Eq.trans (congrArg (fun r : EventRing => r.state) ?_) opened)
    show r = (s.rings.event.set n r)[n]
    rw [getElem_set_fin, if_pos rfl]
  rw [afterEventWrite, resumeEventCommand_close waits, finishCloseEventRing, answerCommand, sendReply_eq, packed_number,
    packed_number, checkWriter_notReady (closed _ _ (by exact (by decide : RingState.closed ≠ .opened)) _), checkStoppingEnd_replied .ok _ rfl]

/-- An open that waited on a FAULTED ring: the writer's check within it is the last. -/
theorem afterEventWrite_open {base : Addr} {slots : BitVec 16} {notify floor : Byte} {l f : Level}
    (waits : waitsWith n.val (.openEventRing base slots notify floor) rec s) (hl : notify.toNat = l.val) (hf : floor.toNat = f.val)
    (faulted : s.rings.event[n].state = .faulted) :
    afterEventWrite n s =
      replied rec .ok {} (checkWriter n (s.setEventRing n (EventRing.openedWith base slots.toNat l))) := by
  rw [afterEventWrite, resumeEventCommand_open waits hl hf, finishOpenEventRing_eq, answerCommand, sendReply_eq,
    if_neg (by rw [faulted]; decide), checkWriter_replied_checkWriter, checkStoppingEnd_replied .ok {} rfl]

variable {i : Instr} {e : EventRecord} {ok : Bool}
  (row : exec i s = .next (afterEventWrite n (writeEnded n e ok (s.setAccess (eventRequester n) none))))
include row

theorem closeEventRing_resumes (waits : waitsWith n.val .closeEventRing rec s) :
    let u := writeEnded n e ok (s.setAccess (eventRequester n) none)
    exec i s = .next
      (replied rec .ok { w0 := packed [(0, 32, u.rings.event[n].count)], w1 := packed [(0, 32, u.delivery[n].lost)] }
        ((u.setEventRing n { u.rings.event[n] with state := .closed, cause := .noCause, attention := false }).setDelivery n
          Delivery.atReset)) :=
  row.trans (congrArg _ (afterEventWrite_close (waitsWith_congr (writeEnded_cmd ..) waits)))

theorem openEventRing_resumes {base : Addr} {slots : BitVec 16} {notify floor : Byte} {l : Level}
    (waits : waitsWith n.val (.openEventRing base slots notify floor) rec s) (faulted : s.rings.event[n].state = .faulted)
    (hl : notify.toNat = l.val) (inRange : floor.toNat < 8) :
    ∃ v, exec i s = .next (replied rec .ok {} v) ∧
      WriterChecked n
        ((writeEnded n e ok (s.setAccess (eventRequester n) none)).setEventRing n (EventRing.openedWith base slots.toNat l)) v := by
  have still := writeEnded_ring_state (s := s.setAccess (eventRequester n) none) e ok
    (n := n) (by exact faulted ▸ (by decide : RingState.faulted ≠ .opened))
  exact ⟨_, row.trans (congrArg _ (afterEventWrite_open (f := ⟨_, inRange⟩) (waitsWith_congr (writeEnded_cmd ..) waits) hl rfl
    (still.trans faulted))), checkWriter_checked n _⟩

end

/-- Settles O25: the write is settled by the row of its kind, and then the command that waits is answered. -/
theorem waitingEventCommandsResume : Obligations.WaitingEventCommandsResume := by
  intro n a s rec e ok returns write
  cases e with
  | entry lap e =>
    have row := eventWriteCompletion_settles returns write ok
    exact ⟨closeEventRing_resumes row, fun _ _ _ _ _ => openEventRing_resumes row⟩
  | overrun lap k time =>
    have row := overrunWriteCompletion_settles returns write ok
    exact ⟨closeEventRing_resumes row, fun _ _ _ _ _ => openEventRing_resumes row⟩

end Sys2Proof.Machine
end

section
/-!
PROOFS. The resets (O2, O10, O11): that the state after reset meets every law, and what a soft and a hardware reset leave, pins included.
-/

namespace Sys2Proof.Machine

/-! ## The state after reset -/

theorem freshTables_reset : FreshTables State.reset :=
  ⟨rfl, rfl, rfl, fun a => by simp [State.reset, AlarmLine.atReset]⟩

theorem reset_access (r : Requester) : State.reset.access r = none := by
  simp [State.reset, MemoryUnit.atReset, State.access]

theorem reset_alarms (a : Fin 4) : State.reset.alarms[a] = AlarmLine.atReset := by simp [State.reset]

/-- ATTN_N is deasserted while the rings are at their reset values and the engine is IDLE. -/
theorem attention_atReset {t : State} (reply : t.rings.reply = ReplyRing.atReset) (sample : t.rings.sample = RingManager.atReset.sample)
    (event : t.rings.event = RingManager.atReset.event) (idle : t.control.engine = .idle) : attention t = false := by
  rw [← Bool.not_eq_true, attention_iff, reply, sample, event, idle]
  simp [RingManager.atReset, ReplyRing.atReset, SampleRing.atReset, EventRing.atReset, Descriptor.atReset]

theorem AlarmLaw.reset : AlarmLaw State.reset := by
  intro a
  rw [reset_alarms]
  decide

theorem EpochLaw.reset : EpochLaw State.reset where
  kind r a flight := by rw [reset_access] at flight; cases flight
  current r a flight := by rw [reset_access] at flight; cases flight
  older _ mem := by cases mem

theorem PinsLaw.reset : PinsLaw State.reset := by
  intro p
  cases p with
  | attn =>
    have quiet : attention State.reset = false := attention_atReset rfl rfl rfl rfl
    exact congrArg not quiet
  | alm a => exact congrArg AlarmLine.asserted (reset_alarms a)

/-- Settles O2: each law holds of tables at their reset values, nothing in flight and no pin changed. -/
theorem resetMeetsEveryLaw : Obligations.ResetMeetsEveryLaw := by
  have path : PathLaw State.reset := .reset rfl rfl rfl reset_access
  have idle : OpeningsLaw State.reset := .idle (by decide : CommandEngine.atReset.phase ≠ .executing)
  exact ⟨.reset, .fresh freshTables_reset, .fresh freshTables_reset, .fresh freshTables_reset,
    fun n => .atReset (reset_delivery n) (reset_access _), .idle rfl rfl rfl rfl rfl rfl (reset_access _), path.1, path.2,
    ringsLaw_iff.2 ⟨.atReset 0, idle⟩, .fresh freshTables_reset, .ofFresh freshTables_reset rfl, .fresh rfl, .reset, .reset⟩

/-! ## The pins at a reset (R170, R171, R195) -/

/-- The steps of the lines' pins, where the lines of `falls` go low and the others stay. -/
theorem flatMap_pinStep_falls (l : List (Fin 4)) {before after falls : Fin 4 → Bool}
    (down : ∀ a, falls a = true → before a = true ∧ after a = false) (stay : ∀ a, falls a = false → after a = before a) :
    (l.flatMap fun a => pinStep (.alm a) (before a) (after a)) =
      (l.filter falls).map fun a => { pin := .alm a, high := false } := by
  induction l with
  | nil => rfl
  | cons a l ih =>
    rw [List.flatMap_cons, ih]
    cases fall : falls a with
    | true =>
      obtain ⟨was, is⟩ := down a fall
      rw [List.filter_cons_of_pos fall, was, is]
      rfl
    | false =>
      rw [List.filter_cons_of_neg (by rw [fall]; decide), stay a fall, pinStep_self]
      rfl

/-- ATTN_N rises where it was low. -/
theorem pinStep_attn_rises (was : Bool) : pinStep .attn (!was) (!false) = if was then [{ pin := .attn, high := true }] else [] := by
  cases was <;> rfl

/-- The pins noted at an event that leaves attention deasserted. -/
theorem notePins_goneIdle {s t : State} {falls : Fin 4 → Bool} (record : t.pinChanges = s.pinChanges) (quiet : attention t = false)
    (down : ∀ a, falls a = true → s.alarms[a].asserted = true ∧ t.alarms[a].asserted = false)
    (stay : ∀ a, falls a = false → t.alarms[a].asserted = s.alarms[a].asserted) :
    (notePins s t).pinChanges = s.pinChanges ++ goneIdle (attention s) falls := by
  show t.pinChanges ++ (pinStep .attn (!attention s) (!attention t) ++
    (List.finRange 4).flatMap fun a => pinStep (.alm a) s.alarms[a].asserted t.alarms[a].asserted) = _
  rw [record, quiet, pinStep_attn_rises, flatMap_pinStep_falls _ down stay]
  rfl

/-- What either reset leaves in the memory access unit (R18, R20). -/
theorem mem_stale_afterReset {s : State} (x : Requester × Access) :
    x ∈ s.mau.afterReset.stale ↔ x ∈ s.mau.stale ∨ (s.access x.1 = some x.2 ∧ x.2.phase = .onLink) :=
  List.mem_append.trans (or_congr_right MemoryUnit.mem_onLink)

section
variable (s : State)

theorem softReset_alarms (a : Fin 4) : (softReset s).alarms[a] = s.alarms[a].afterSoftReset := by simp [softReset]

theorem softReset_quiet : attention (softReset s) = false := attention_atReset rfl rfl rfl rfl

theorem hardReset_alarms (a : Fin 4) : (hardReset s).alarms[a] = AlarmLine.atReset := by simp [hardReset, State.reset]

theorem hardReset_quiet : attention (hardReset s) = false := attention_atReset rfl rfl rfl rfl

theorem afterSoftReset_asserted (l : AlarmLine) :
    l.afterSoftReset.asserted = if l.mode = .follow then false else l.asserted := by
  unfold AlarmLine.afterSoftReset
  cases l.mode <;> rfl

theorem softReset_record : (softReset s).pinChanges =
    s.pinChanges ++ goneIdle (attention s) (fun a => s.alarms[a].asserted && s.alarms[a].mode == .follow) := by
  have line (a : Fin 4) := (congrArg AlarmLine.asserted (softReset_alarms s a)).trans (afterSoftReset_asserted _)
  refine notePins_goneIdle rfl (softReset_quiet s) (fun a falls => ?_) fun a stays => ?_
  · rw [Bool.and_eq_true, beq_iff_eq] at falls
    exact ⟨falls.1, (line a).trans (if_pos falls.2)⟩
  · refine (line a).trans ?_
    split
    next follow =>
      rw [follow, beq_self_eq_true, Bool.and_true] at stays
      exact stays.symm
    next => rfl

theorem hardReset_record : (hardReset s).pinChanges = s.pinChanges ++ goneIdle (attention s) fun a => s.alarms[a].asserted := by
  have line (a : Fin 4) : (hardReset s).alarms[a].asserted = false := congrArg AlarmLine.asserted (hardReset_alarms s a)
  exact notePins_goneIdle rfl (hardReset_quiet s) (fun a falls => ⟨falls, line a⟩) fun a stays => (line a).trans stays.symm

end

/-- Settles O10: each block after RESET with RST_N released. -/
theorem softResetValues : Obligations.SoftResetValues := by
  intro s released
  have mau := softReset_mau s
  refine ⟨softReset s, congrArg _ (busWrite_released released softReset), rfl, by rw [mau]; rfl, by rw [mau]; rfl,
    access_afterReset mau, fun x => by rw [mau]; exact mem_stale_afterReset x, rfl, rfl, fun i => ?_, fun id => ?_, rfl, fun n => ?_,
    fun a => ?_, softReset_record s, rfl, rfl, softReset_quiet s⟩
  · show State.reset.streams[i] = _; simp [State.reset]
  · show State.reset.watches[id] = _; simp [State.reset]
  · exact reset_delivery n
  · rw [softReset_alarms]
    refine ⟨rfl, rfl, fun follow => ?_, fun latch => ?_⟩
    · rw [afterSoftReset_asserted, if_pos follow]
    · rw [afterSoftReset_asserted, if_neg (by rw [latch]; decide)]

/-- Settles O11: each block after the assertion of RST_N, its release, and the held tick. -/
theorem hardwareResetValues : Obligations.HardwareResetValues := by
  refine ⟨fun s => ?_, fun s => rfl, fun s asserted => ?_⟩
  · have mau := hardReset_mau s
    refine ⟨hardReset s, rfl, rfl, by rw [mau]; rfl, by rw [mau]; rfl, access_afterReset mau,
      fun x => by rw [mau]; exact mem_stale_afterReset x, rfl, rfl, fun i => ?_, fun id => ?_, rfl, reset_delivery,
      hardReset_alarms s, hardReset_record s, rfl, rfl, hardReset_quiet s⟩
    · show State.reset.streams[i] = _; simp [State.reset]
    · show State.reset.watches[id] = _; simp [State.reset]
  · show Host.Outcome.next (if s.control.rstAsserted then s else advanceTime (takeDueExpiries s)) = _
    rw [asserted]
    rfl

end Sys2Proof.Machine
end

section
/-!
PROOFS. The bytes of a command record (O6): its fields at their offsets (R201, R202), and that the bytes a command does not use change
nothing but the held record.
-/

namespace Sys2Proof.Machine

/-! ## Fields of the parameters (R202) -/

section
variable (bytes : Vector Byte 32)

theorem field_byte_eq {bytes : List Byte} {i : Nat} (h : i < bytes.length) : BitVec.ofNat 8 (field bytes i 1) = byteAt bytes i := by
  rw [field_byte h, BitVec.ofNat_toNat, BitVec.setWidth_eq]

theorem field_le16_eq {bytes : List Byte} {i : Nat} (h : i + 1 < bytes.length) : BitVec.ofNat 16 (field bytes i 2) = le16 bytes i := by
  rw [field_le16 h, BitVec.ofNat_toNat, BitVec.setWidth_eq]

theorem field_le32_eq {bytes : List Byte} {i : Nat} (h : i + 3 < bytes.length) : BitVec.ofNat 32 (field bytes i 4) = le32 bytes i := by
  rw [field_le32 h, BitVec.ofNat_toNat, BitVec.setWidth_eq]

theorem field_le64_eq {bytes : List Byte} {i : Nat} (h : i + 7 < bytes.length) : BitVec.ofNat 64 (field bytes i 8) = le64 bytes i := by
  rw [field_le64 h, BitVec.ofNat_toNat, BitVec.setWidth_eq]

/-- The parameters stand eight bytes into the record. -/
theorem params_le16 (i : Nat) : le16 (commandRecordOfBytes bytes).params.toList i = le16 bytes.toList (i + 8) := by
  simp only [le16, commandRecordOfBytes_params, Nat.add_right_comm]

theorem params_le32 (i : Nat) : le32 (commandRecordOfBytes bytes).params.toList i = le32 bytes.toList (i + 8) := by
  simp only [le32, params_le16, Nat.add_right_comm]

theorem params_le64 (i : Nat) : le64 (commandRecordOfBytes bytes).params.toList i = le64 bytes.toList (i + 8) := by
  simp only [le64, params_le32, Nat.add_right_comm]

theorem getElem_eq_byteAt {l : List Byte} {i : Nat} (h : i < l.length) : l[i] = byteAt l i := (List.getD_eq_getElem l 0 h).symm

theorem params_toList : (commandRecordOfBytes bytes).params.toList = bytes.toList.drop 8 := by
  refine List.ext_getElem (by rw [Vector.length_toList, List.length_drop, Vector.length_toList]) fun i h1 h2 => ?_
  rw [List.getElem_drop, getElem_eq_byteAt, getElem_eq_byteAt, commandRecordOfBytes_params, Nat.add_comm]

theorem bindParams_eq : bindParams (commandRecordOfBytes bytes).params.toList = bindFields bytes.toList := by
  unfold bindParams bindFields
  simp only [params_le16, params_le32, commandRecordOfBytes_params]
  rw [field_byte_eq, field_byte_eq, field_byte_eq, field_byte_eq, field_le16_eq, field_le32_eq] <;> simp

theorem watchParams_eq : watchParams (commandRecordOfBytes bytes).params.toList = watchFields bytes.toList := by
  unfold watchParams watchFields
  simp only [params_le32, commandRecordOfBytes_params]
  rw [field_byte_eq, field_byte_eq, field_byte_eq, field_byte_eq, field_byte_eq, field_byte_eq, field_byte_eq, field_byte_eq,
    field_le32_eq, field_le32_eq, field_le32_eq] <;> simp

/-- The request of a record is the command of its code, with its parameters at their offsets. -/
theorem commandRecordOfBytes_request : (commandRecordOfBytes bytes).request = requestFields bytes.toList := by
  have code : field bytes.toList 0 1 = (commandRecordOfBytes bytes).code.toNat := field_byte (by simp)
  have base : BitVec.ofNat 64 (field bytes.toList 8 8) = le64 (commandRecordOfBytes bytes).params.toList 0 := by
    rw [params_le64, field_le64_eq (by simp)]
  have slots : BitVec.ofNat 16 (field bytes.toList 16 2) = le16 (commandRecordOfBytes bytes).params.toList 8 := by
    rw [params_le16, field_le16_eq (by simp)]
  have byte (i : Nat) (h : i < 24) :
      BitVec.ofNat 8 (field bytes.toList (i + 8) 1) = byteAt (commandRecordOfBytes bytes).params.toList i := by
    rw [commandRecordOfBytes_params, field_byte_eq (by simp; omega)]
  unfold requestFields CommandRecord.request decodeRequest
  rw [base, slots, byte 10 (by decide), byte 11 (by decide), byte 0 (by decide), ← bindParams_eq, ← watchParams_eq, code]
  simp only [BitVec.toNat_eq, BitVec.ofNat_toNat, BitVec.setWidth_eq]
  rfl

end

/-! ## The held record (R36, R38) -/

/-- A request that is decoded has the code it was decoded from, and a record of its own. -/
theorem decodeRequest_names (code : Byte) (params : List Byte) :
    (decodeRequest code params).code = code ∧ (decodeRequest code params).wellFormed = true := by
  by_cases known : code ∈ commandCodes
  · unfold commandCodes at known
    fin_cases known <;> exact ⟨rfl, rfl⟩
  · rw [decodeRequest_unknown known]
    exact ⟨rfl, by simpa [Request.wellFormed] using known⟩

section
variable {s : State}

theorem issueShadowWrite_setCmd (c : CommandEngine) : issueShadowWrite (s.setCmd c) = (issueShadowWrite s).setCmd c := by
  rw [issueShadowWrite, issueShadowWrite, apply_ite (State.setCmd c)]
  rfl

/-- The state `u` with the record `rec` held in place of the one it holds. -/
def State.holding (rec : CommandRecord) (u : State) : State := u.setCmd { u.cmd with held := some rec }

theorem issueShadowWrite_holding (rec : CommandRecord) : issueShadowWrite (s.holding rec) = (issueShadowWrite s).holding rec := by
  unfold State.holding
  rw [issueShadowWrite_setCmd, issueShadowWrite_cmd]

/-- Two records that ask for the same, with the same header, lead to the same state but for the record held. -/
theorem answer_holding {rec cmd : CommandRecord} (code : rec.code = cmd.code) (flags : rec.flags = cmd.flags) (tag : rec.tag = cmd.tag)
    (index : rec.index = cmd.index) (request : rec.request = cmd.request) :
    answerCommand cmd (ownerOf cmd (taken cmd s)) (taken cmd s) =
      (answerCommand rec (ownerOf rec (taken rec s)) (taken rec s)).holding cmd := by
  have same : taken cmd s = (taken rec s).setCmd { phase := .executing, held := some cmd, reply := none } := rfl
  have owner : ownerOf cmd (taken cmd s) = (ownerOf rec (taken rec s)).map
      (State.setCmd { phase := .executing, held := some cmd, reply := none }) := by
    unfold ownerOf
    rw [same, perform_setCmd, index, flags, request]
  rw [owner]
  cases ownerOf rec (taken rec s) with
  | waits => exact same
  | done status words u =>
    show sendReply cmd status words (u.setCmd _) = (sendReply rec status words u).holding cmd
    rw [sendReply_eq, sendReply_eq]
    unfold replied replyFor
    rw [code, tag]
    rfl

end

/-- Settles O6: the fields are the bytes at their offsets, and the row that the bytes spell and the completion that brings them differ in
the held record alone. -/
theorem unusedBytesAreIgnored : Obligations.UnusedBytesAreIgnored := by
  refine ⟨fun bytes => ⟨(field_byte (by simp)).symm, (field_byte (by simp)).symm, (field_le16 (by simp)).symm,
    (field_le16 (by simp)).symm, params_toList bytes, commandRecordOfBytes_request bytes⟩, fun bytes s arrives => ?_⟩
  dsimp only
  generalize cmd_eq : commandRecordOfBytes bytes = cmd
  obtain ⟨code, wf⟩ := decodeRequest_names cmd.code cmd.params.toList
  have held := answer_holding (s := s) (rec := recordOf { flags := cmd.flags, tag := cmd.tag, index := cmd.index } cmd.request)
    (cmd := cmd) code rfl rfl rfl (recordOf_request wf _)
  rw [exec_rowOf, onCommandFetch_eq arrives, exec_commandFetchCompletion_ok, cmd_eq, onCommandFetch_eq arrives, held,
    issueShadowWrite_holding]
  exact ⟨_, rfl, rfl⟩

end Sys2Proof.Machine
end
